-- ==== Sys2Proof/Word.lean ====
section
/-! DEFINITION. The widths of the block's datapath (00_scope.md R4, R6): the only word types of the model. -/

namespace Sys2Proof

/-- A `u32`: the width of every register, operand and exchanged word that states no other (R4). -/
abbrev Word := BitVec 32

/-- A `u16`: the CRC's significant bits, the token, the length parameter, the digest, a 16-bit exchange. -/
abbrev Half := BitVec 16

/-- A `u8`: an image byte, `PP`, finalA, finalB. -/
abbrev Byte := BitVec 8

end Sys2Proof
end

