-- ==== Sys2Proof/Config.lean ====
section
/-! DEFINITION. The constants the source fixes (00_scope.md R5), the types of the two open parameters (R3), and the
one free value of the model: the answers of the transport and the peer behind it (R9). -/

namespace Sys2Proof

/-- What one exchange returns (R9): `OK(r)` with a 32-bit response word, or `XFAIL`. -/
inductive Xfer where
  | ok (r : Word)
  | xfail
  deriving DecidableEq, Repr, Inhabited

/-- `XFER_FAIL_POLICY` (R3, 20_memory.md R41): what a transport failure does. -/
inductive FailPolicy where
  | surface
  | asZero
  deriving DecidableEq, Repr

/-- `WAIT_LIMIT` (R3): the bound on the `0x0065` exchanges of the Validating phase. The spec's `n` is positive; the type
does not say so (log 19). -/
inductive WaitLimit where
  | unbounded
  | bounded (n : Nat)
  deriving DecidableEq, Repr

namespace Config

/-- `HDR_LEN`, the fixed header length in bytes. -/
def hdrLen : Nat := 192
/-- `CRC_SEED`, the CRC register's initial value. -/
def crcSeed : Word := 0xC387#32
/-- `CRC_POLY`, the polynomial mask: the hardwired register `CRC.POLY` (10_state.md R15; log 18). -/
def crcPoly : Word := 0xC37B#32
/-- `CRC_FIN_HI`, the high half of the finalize value. -/
def crcFinHi : Word := 0xFFFF0000#32
/-- `KSG_MUL`. -/
def ksgMul : Word := 0x6F646573#32
/-- `KSG_INC`. -/
def ksgInc : Word := 1#32
/-- `KSG_MASK`: the hardwired register `KSG.MASK` (10_state.md R19; log 18). -/
def ksgMask : Word := 0x43202F2F#32
/-- `KSG_IDX_BASE`. -/
def ksgIdxBase : Word := 0xFE000000#32
/-- `PP_BASE`. -/
def ppBase : Byte := 0x81#8
/-- `TOKEN_MARK`, the required high byte of the token. -/
def tokenMark : Byte := 0x73#8
/-- `FA_ADJ`, the finalA adjustment. -/
def faAdj : Byte := 0x0F#8
/-- `SEED_HI`, the high half of the keystream seed. -/
def seedHi : Word := 0xFFFF0000#32
/-- `LEN_BIAS`, subtracted from the payload word count. -/
def lenBias : Half := 0x34#16
/-- `CMD_PROBE`. -/
def cmdProbe : Half := 0x6202#16
/-- `RSP_PROBE`. -/
def rspProbe : Half := 0x7202#16
/-- `CMD_HDR_START`. -/
def cmdHdrStart : Half := 0x6100#16
/-- `CMD_HDR_END`. -/
def cmdHdrEnd : Half := 0x6200#16
/-- `CMD_KEY`, to be OR'd with `PP`. -/
def cmdKey : Half := 0x6300#16
/-- `CMD_CRC_A`, to be OR'd with the adjusted finalA. -/
def cmdCrcA : Half := 0x6400#16
/-- `CMD_WAIT`. -/
def cmdWait : Half := 0x0065#16
/-- `RSP_WAIT`. -/
def rspWait : Half := 0x0075#16
/-- `CMD_CSUM`. -/
def cmdCsum : Half := 0x0066#16

/-- The answer of the transport and peer oracle to the `n`-th exchange that no scripted answer serves: FREE, nothing
constrains it (R9, U11). No body, so no proof can rest on a value of it. Log 1 (DESIGN CHOICE for the form; safe). -/
opaque freeXfer : Nat → Xfer

/-- What an image address below `LEN` with no cell of its own reads as. Log 4 (DESIGN CHOICE, unsafe). -/
def blankByte : Byte := 0#8

end Config
end Sys2Proof
end

