-- ==== Sys2Proof/Syntax.lean ====
section
/-! DEFINITION. The instructions: one constructor per row of spec/opcode_table.json, in the table's order. The first
nine are the host operations of format H (30_encoding.md R48, R49) with their operands; the others are the words of the
wire (R51, R52), each one micro-step of the sequencer, with the data field the table gives it. A header word and a
payload word also carry their number, which comes from their position and not from their bits (R54). -/

namespace Sys2Proof

/-- One row of the opcode table with its operands. -/
inductive Instr where
  /-- `CRC_INIT finalA, finalB` (R60) -/
  | crcInit (finalA finalB : Byte)
  /-- `CRC_STEP value` (R61) -/
  | crcStep (value : Word)
  /-- `CRC_DIGEST` (R62) -/
  | crcDigest
  /-- `KSG_INIT seed` (R65) -/
  | ksgInit (seed : Word)
  /-- `KSG_STEP value, index` (R66) -/
  | ksgStep (value index : Word)
  /-- `SEQ_NEW cfg` (R69) -/
  | seqNew (cfg : Byte)
  /-- `SEQ_PROBE` (R70) -/
  | seqProbe
  /-- `SEQ_MULTIBOOT` (R71) -/
  | seqMultiboot
  /-- `STATUS_READ` (R72) -/
  | statusRead
  /-- `W_PROBE`, the word `SEQ_PROBE` exchanges (R70) -/
  | wProbe
  /-- `W_HDR_START`, micro-step H0 (R74) -/
  | wHdrStart
  /-- `W_HDR_WORD`, micro-step H(k+1): header word `k` with value `h` (R75) -/
  | wHdrWord (k : Fin 96) (h : Half)
  /-- `W_HDR_END`, micro-step H97 (R76) -/
  | wHdrEnd
  /-- `W_KEY_PROBE`, micro-step K0 (R77) -/
  | wKeyProbe
  /-- `W_KEY_PRIME`, micro-step K1 (R78) -/
  | wKeyPrime (pp : Byte)
  /-- `W_KEY_FETCH`, micro-step K2 (R79) -/
  | wKeyFetch (pp : Byte)
  /-- `W_CRC_A`, micro-step K3 (R80) -/
  | wCrcA (fa : Byte)
  /-- `W_LEN`, micro-step K4 (R81) -/
  | wLen (lenParam : Half)
  /-- `W_PAYLOAD`, micro-step T(i): the ciphertext `c` of payload word `i` (R82) -/
  | wPayload (i : Nat) (c : Word)
  /-- `W_WAIT`, micro-step V0 (R84) -/
  | wWait
  /-- `W_CSUM_START`, micro-step V1 (R85) -/
  | wCsumStart
  /-- `W_CSUM_VALUE`, micro-step V2 (R86) -/
  | wCsumValue (digest : Half)
  deriving DecidableEq, Repr

end Sys2Proof
end

