-- ==== Sys2Proof/WellFormed.lean ====
section
/-! DEFINITION. What the types of Syntax.lean do not already say about an instruction. Field widths and the header word's
number are types; the payload word's number is a natural, bounded by the image space. -/

namespace Sys2Proof

/-- A payload word's number is that of a word wholly inside an image space of `LEN < 2^32` bytes (00_scope.md R3,
20_memory.md R33, R35: its bytes are `4i + 192` to `4i + 195`, each below `LEN`). -/
def payloadInRange (i : Nat) : Bool := decide (4 * i + 196 < 2 ^ 32)

/-- The one check an instruction can fail: the number of a payload word. -/
def Instr.wellFormed : Instr → Bool
  | .wPayload i _ => payloadInRange i
  | .crcInit _ _ => true
  | .crcStep _ => true
  | .crcDigest => true
  | .ksgInit _ => true
  | .ksgStep _ _ => true
  | .seqNew _ => true
  | .seqProbe => true
  | .seqMultiboot => true
  | .statusRead => true
  | .wProbe => true
  | .wHdrStart => true
  | .wHdrWord _ _ => true
  | .wHdrEnd => true
  | .wKeyProbe => true
  | .wKeyPrime _ => true
  | .wKeyFetch _ => true
  | .wCrcA _ => true
  | .wLen _ => true
  | .wWait => true
  | .wCsumStart => true
  | .wCsumValue _ => true

end Sys2Proof
end

