-- ==== Sys2Proof/Decode.lean ====
section
/-! DEFINITION. The two encoded interfaces (30_encoding.md): format H of the host control port, and the words of the
wire, which are read BY POSITION and not by their bits alone (R54). `decode` is total and rejects by name; `encode`
writes the same encodings. -/

namespace Sys2Proof

/-- The micro-steps of the sequencer, the values of `UPC` (10_state.md R24), in their order. `hdr k` is `H(k+1)`. -/
inductive MicroStep where
  | h0
  | hdr (k : Fin 96)
  | h97
  | k0
  | k1
  | k2
  | k3
  | k4
  | t (i : Nat)
  | v0
  | v1
  | v2
  | done
  deriving DecidableEq, Repr

/-- Where a wire word stands (the opcode table's `fields.step`): inside `SEQ_PROBE`, or at a micro-step. -/
inductive WirePos where
  | probe
  | micro (u : MicroStep)
  deriving DecidableEq, Repr

/-- One host operation as the port carries it (R47): a command word and two operands. -/
structure HostOp where
  cmd : Word
  a : Word
  b : Word
  deriving DecidableEq, Repr

/-- What the decoder reads: a host operation, or a wire word with its position. -/
inductive Code where
  | host (op : HostOp)
  | wire (pos : WirePos) (w : Word)
  deriving DecidableEq, Repr

/-- Why a code is rejected. The first three are the reserved host encodings of R50; the others are words that are no row
of the table at their position (R54). -/
inductive Reject where
  /-- `OP` is 0x0, 0x6, 0x7, 0xB, 0xC, 0xD or 0xF -/
  | reservedOp
  /-- `CMD[31:4]` is not zero -/
  | reservedCmdBits
  /-- an operand bit that R49 says must be zero is not -/
  | reservedOperandBits
  /-- the micro-step sends no word (`DONE`) -/
  | noWireWord
  /-- the word does not match the row of its micro-step -/
  | notItsWord
  /-- the payload word's number lies outside every image -/
  | payloadNumber
  deriving DecidableEq, Repr

/-- `zext_32` of a 16-bit value: format W16 sends zeros above the value (R40, R51). -/
def zext16 (h : Half) : Word := h.setWidth 32

/-- `zext_32` of a byte. -/
def zext8 (b : Byte) : Word := b.setWidth 32

/-- A command byte with its parameter byte: `h = base OR p` (R52). -/
def withParam (base : Half) (p : Byte) : Half := base ||| p.setWidth 16

/-- Bits 15:0 of a word. -/
def lo16 (w : Word) : Half := w.setWidth 16

/-- Bits 31:16 of a word: the 16-bit view of a response (R9, R40). -/
def hi16 (w : Word) : Half := w.extractLsb' 16 16

/-- Bits 7:0 of a word. -/
def lo8 (w : Word) : Byte := w.setWidth 8

/-- An operand of which only bits 7:0 may be set (R49, R50). -/
def onlyByte (w : Word) : Bool := w >>> 8 == 0#32

/-- The host operation with a given `OP` (R48), its operands assembled as R49 says. -/
def decodeOp (op : Nat) (a b : Word) : Except Reject Instr :=
  match op with
  | 0x1 => if onlyByte a && onlyByte b then .ok (.crcInit (lo8 a) (lo8 b)) else .error .reservedOperandBits
  | 0x2 => if b == 0#32 then .ok (.crcStep a) else .error .reservedOperandBits
  | 0x3 => if a == 0#32 && b == 0#32 then .ok .crcDigest else .error .reservedOperandBits
  | 0x4 => if b == 0#32 then .ok (.ksgInit a) else .error .reservedOperandBits
  | 0x5 => .ok (.ksgStep a b)
  | 0x8 => if onlyByte a && b == 0#32 then .ok (.seqNew (lo8 a)) else .error .reservedOperandBits
  | 0x9 => if a == 0#32 && b == 0#32 then .ok .seqProbe else .error .reservedOperandBits
  | 0xA => if a == 0#32 && b == 0#32 then .ok .seqMultiboot else .error .reservedOperandBits
  | 0xE => if a == 0#32 && b == 0#32 then .ok .statusRead else .error .reservedOperandBits
  | _ => .error .reservedOp

/-- Format H (R47, R50): `CMD[31:4]` must be zero, `CMD[3:0]` selects the operation. -/
def decodeHost (op : HostOp) : Except Reject Instr :=
  if op.cmd >>> 4 == 0#32 then decodeOp op.cmd.toNat op.a op.b else .error .reservedCmdBits

/-- The row of the opcode table at a position, as its `match` and `mask`. -/
def wireRow : WirePos → Option (Word × Word)
  | .probe => some (0x00006202#32, 0xFFFFFFFF#32)
  | .micro .h0 => some (0x00006100#32, 0xFFFFFFFF#32)
  | .micro (.hdr _) => some (0x00000000#32, 0xFFFF0000#32)
  | .micro .h97 => some (0x00006200#32, 0xFFFFFFFF#32)
  | .micro .k0 => some (0x00006202#32, 0xFFFFFFFF#32)
  | .micro .k1 => some (0x00006300#32, 0xFFFFFF00#32)
  | .micro .k2 => some (0x00006300#32, 0xFFFFFF00#32)
  | .micro .k3 => some (0x00006400#32, 0xFFFFFF00#32)
  | .micro .k4 => some (0x00000000#32, 0xFFFF0000#32)
  | .micro (.t _) => some (0x00000000#32, 0x00000000#32)
  | .micro .v0 => some (0x00000065#32, 0xFFFFFFFF#32)
  | .micro .v1 => some (0x00000066#32, 0xFFFFFFFF#32)
  | .micro .v2 => some (0x00000000#32, 0xFFFF0000#32)
  | .micro .done => none

/-- The instruction a matching word is at its position, with its data field (R52). -/
def wireInstr : WirePos → Word → Except Reject Instr
  | .probe, _ => .ok .wProbe
  | .micro .h0, _ => .ok .wHdrStart
  | .micro (.hdr k), w => .ok (.wHdrWord k (lo16 w))
  | .micro .h97, _ => .ok .wHdrEnd
  | .micro .k0, _ => .ok .wKeyProbe
  | .micro .k1, w => .ok (.wKeyPrime (lo8 w))
  | .micro .k2, w => .ok (.wKeyFetch (lo8 w))
  | .micro .k3, w => .ok (.wCrcA (lo8 w))
  | .micro .k4, w => .ok (.wLen (lo16 w))
  | .micro (.t i), w => if payloadInRange i then .ok (.wPayload i w) else .error .payloadNumber
  | .micro .v0, _ => .ok .wWait
  | .micro .v1, _ => .ok .wCsumStart
  | .micro .v2, w => .ok (.wCsumValue (lo16 w))
  | .micro .done, _ => .error .noWireWord

/-- A wire word is classified by its position, then checked against that row (R54). -/
def decodeWire (pos : WirePos) (w : Word) : Except Reject Instr :=
  match wireRow pos with
  | none => .error .noWireWord
  | some (m, mask) => if w &&& mask == m then wireInstr pos w else .error .notItsWord

/-- The decoder: total on every host operation and on every word at every position. -/
def decode : Code → Except Reject Instr
  | .host op => decodeHost op
  | .wire pos w => decodeWire pos w

/-- The encoder, from the tables of R48, R49 and R52. -/
def encode : Instr → Code
  | .crcInit a b => .host ⟨0x1#32, zext8 a, zext8 b⟩
  | .crcStep v => .host ⟨0x2#32, v, 0#32⟩
  | .crcDigest => .host ⟨0x3#32, 0#32, 0#32⟩
  | .ksgInit seed => .host ⟨0x4#32, seed, 0#32⟩
  | .ksgStep v index => .host ⟨0x5#32, v, index⟩
  | .seqNew cfg => .host ⟨0x8#32, zext8 cfg, 0#32⟩
  | .seqProbe => .host ⟨0x9#32, 0#32, 0#32⟩
  | .seqMultiboot => .host ⟨0xA#32, 0#32, 0#32⟩
  | .statusRead => .host ⟨0xE#32, 0#32, 0#32⟩
  | .wProbe => .wire .probe (zext16 Config.cmdProbe)
  | .wHdrStart => .wire (.micro .h0) (zext16 Config.cmdHdrStart)
  | .wHdrWord k h => .wire (.micro (.hdr k)) (zext16 h)
  | .wHdrEnd => .wire (.micro .h97) (zext16 Config.cmdHdrEnd)
  | .wKeyProbe => .wire (.micro .k0) (zext16 Config.cmdProbe)
  | .wKeyPrime pp => .wire (.micro .k1) (zext16 (withParam Config.cmdKey pp))
  | .wKeyFetch pp => .wire (.micro .k2) (zext16 (withParam Config.cmdKey pp))
  | .wCrcA fa => .wire (.micro .k3) (zext16 (withParam Config.cmdCrcA fa))
  | .wLen h => .wire (.micro .k4) (zext16 h)
  | .wPayload i c => .wire (.micro (.t i)) c
  | .wWait => .wire (.micro .v0) (zext16 Config.cmdWait)
  | .wCsumStart => .wire (.micro .v1) (zext16 Config.cmdCsum)
  | .wCsumValue d => .wire (.micro .v2) (zext16 d)

/-- The positions of the wire rows, those with the most fixed bits first and each kind in the table's order: the order in
which a word WITHOUT a position is tried (log 11; a header word is number 0, a payload word number 0). -/
def bareWordOrder : List WirePos :=
  [.probe, .micro .h0, .micro .h97, .micro .k0, .micro .v0, .micro .v1, .micro .k1, .micro .k2, .micro .k3,
   .micro (.hdr 0), .micro .k4, .micro .v2, .micro (.t 0)]

/-- The first position of a list at which a word decodes, with its instruction. -/
def firstWire (w : Word) : List WirePos → Option Instr
  | [] => none
  | pos :: rest =>
    match decodeWire pos w with
    | .ok i => some i
    | .error _ => firstWire w rest

/-- The instruction read from bits numbered as the opcode table numbers them: the first 32 bits are `CMD`, or the wire word;
the next 32 are operand `A`, the next 32 operand `B`, as the port carries them (R47). A host operation is tried first; a
value of 32 bits that is none is read as a wire word with no position (log 11). No instruction has more than 96 bits. -/
def decodeTableWord (nbits w : Nat) : Option Instr :=
  let v := w % 2 ^ nbits
  if 2 ^ 96 ≤ v then none
  else match decodeHost ⟨BitVec.ofNat 32 v, BitVec.ofNat 32 (v / 2 ^ 32), BitVec.ofNat 32 (v / 2 ^ 64)⟩ with
  | .ok i => some i
  | .error _ => if v < 2 ^ 32 then firstWire (BitVec.ofNat 32 v) bareWordOrder else none

end Sys2Proof
end

