-- ==== Sys2Proof/Machine/State.lean ====
section
/-! DEFINITION. The machine's state as plain data: every register of 10_state.md, the launch parameters and the image of
00_scope.md R3, and the model's own record of what stands outside the block (the port, the peer, the trace).
A register that the spec lets hold `NONE` (R7, R31) is an `Option` whose `none` is the spec's `NONE`: it is the spec's own
reset value, not the want of one (log 5). `CRC.POLY` and
`KSG.MASK` are hardwired: constants of Config.lean, no fields (log 18). -/

namespace Sys2Proof.Machine

/-- `CRC.ST` (R17). The value 3 never occurs and has no constructor (log 17). -/
inductive CrcSt where
  | unset
  | live
  | digested
  deriving DecidableEq, Repr

/-- `KSG.ST` (R20). -/
inductive KsgSt where
  | unset
  | live
  deriving DecidableEq, Repr

/-- `PHASE` (R23), its eight codes in order. -/
inductive Phase where
  | noSession
  | probing
  | headerSent
  | keysExchanged
  | transferring
  | validating
  | completed
  | failed
  deriving DecidableEq, Repr

/-- `ERR` (R25), codes 0 to 6 in order. Code 7 is never written and has no constructor (log 17). -/
inductive ErrKind where
  | ok
  | failedHandshake
  | transmissionError
  | invalidChecksum
  | transportError
  | checksumTimeout
  | configError
  deriving DecidableEq, Repr

/-- The model faults (60_exceptions.md R102). The spec gives each its effect (R104: nothing changes, no result, `FAULT`
keeps the first), so the operation that raises one answers a NEXT state with `FAULT` recorded, through
`State.modelFault`; no step answers `Outcome.fault` (log 6). -/
inductive Fault where
  /-- `F_RESERVED_OP`: raised by a step whose host operation is a reserved encoding (R50). Unsafe as log 6 says: what the
  hardware does is not in the source. -/
  | reservedOp
  /-- `F_CRC_UNSET`: raised by `CRC_STEP`, `CRC_DIGEST` with `CRC.ST` = UNSET (R61, R62). Unsafe as log 6 says. -/
  | crcUnset
  /-- `F_CRC_DIGESTED`: raised by `CRC_STEP`, `CRC_DIGEST` with `CRC.ST` = DIGESTED (R61, R62). Unsafe as log 6 says. -/
  | crcDigested
  /-- `F_KSG_UNSET`: raised by `KSG_STEP` with `KSG.ST` = UNSET (R66). Unsafe as log 6 says. -/
  | ksgUnset
  /-- `F_WRONG_PHASE`: raised by `SEQ_PROBE`, `SEQ_MULTIBOOT` outside PROBING (R70, R71). Unsafe as log 6 says. -/
  | wrongPhase
  /-- `F_NO_VALUE`: raised by a rule that reads a register holding `NONE` (R7). No run reaches it (R102). Safe. -/
  | noValue
  /-- `F_IMG_BOUNDS`: raised by an image read at an offset not below `LEN` (R8). No run reaches it (R102). Safe. -/
  | imgBounds
  deriving DecidableEq, Repr

/-- Why `exec` answers that an instruction has no meaning in a state. -/
inductive Refusal where
  /-- Raised by an arm of `exec` whose instruction has no meaning yet. Safe: the machine stops. No arm is left so. -/
  | notModelled (mnemonic : String)
  /-- Raised by the meaning of a wire word in a state in which the sequencer is not about to send that word: a wire word
  is an instruction only within its micro-step (30_encoding.md R54). `step` never raises it. Safe (log 10). -/
  | notSent (mnemonic : String)
  deriving DecidableEq, Repr

/-- What reaches the block from outside between operations: a host operation (R47), or the reset event (R112). -/
inductive PortEvent where
  | op (o : HostOp)
  | reset
  deriving DecidableEq, Repr

/-- One exchange of the wire trace (42_sequencer.md R88): its position, the sent word, the answer. -/
structure WireEvent where
  pos : WirePos
  sent : Word
  answer : Xfer
  deriving DecidableEq, Repr

/-- The image space as cells: addresses strictly rising, no byte equal to `Config.blankByte` (log 4). -/
abbrev Memory := List Host.Cell

/-- The state of the machine. -/
@[ext]
structure State where
  /-- `CRC.REG` (R14) -/
  crcReg : Option Word
  /-- `CRC.FIN` (R16) -/
  crcFin : Option Word
  /-- `CRC.ST` (R17) -/
  crcSt : CrcSt
  /-- `KSG.SEED` (R18) -/
  ksgSeed : Option Word
  /-- `KSG.ST` (R20) -/
  ksgSt : KsgSt
  /-- `PP` (R21) -/
  pp : Option Byte
  /-- `TOKEN` (R21) -/
  token : Option Half
  /-- `FA_RAW` (R21) -/
  faRaw : Option Byte
  /-- `FA` (R21) -/
  fa : Option Byte
  /-- `SEED0` (R21) -/
  seed0 : Option Word
  /-- `LENPARAM` (R21) -/
  lenParam : Option Half
  /-- `FB` (R21) -/
  fb : Option Byte
  /-- `I` (R21) -/
  idx : Option Word
  /-- `WAIT_CNT`, a natural (R21) -/
  waitCnt : Option Nat
  /-- `DIGEST` (R21) -/
  digest : Option Half
  /-- `READY` (R22) -/
  ready : Bool
  /-- `PHASE` (R23) -/
  phase : Phase
  /-- `UPC` (R24) -/
  upc : MicroStep
  /-- `ERR` (R25) -/
  err : ErrKind
  /-- `FAULT` (R30): the first model fault, or none -/
  fault : Option Fault
  /-- `LEN` (00_scope.md R3), `LEN < 2^32` -/
  len : Word
  /-- `IMG` (00_scope.md R3): the bytes below `LEN` -/
  img : Memory
  /-- `WAIT_LIMIT` (00_scope.md R3) -/
  waitLimit : WaitLimit
  /-- `XFER_FAIL_POLICY` (00_scope.md R3) -/
  failPolicy : FailPolicy
  /-- MODEL'S OWN: the events the host has yet to issue, the next first (log 7) -/
  port : List PortEvent
  /-- MODEL'S OWN: the result the port last returned; none while an operation runs or after a model fault (log 7) -/
  result : Option Word
  /-- MODEL'S OWN: the answers already fixed for the next exchanges, the next first (log 1) -/
  peer : List Xfer
  /-- MODEL'S OWN: how many free answers have been drawn (log 1) -/
  draws : Nat
  /-- MODEL'S OWN: the exchanges since the session was constructed, the oldest first (log 14) -/
  trace : List WireEvent
  deriving DecidableEq, Repr

/-- The block after reset (R31, R112). The parameters and the model's own fields stand as logs 2 and 3 say. -/
def State.reset : State where
  crcReg := none
  crcFin := none
  crcSt := .unset
  ksgSeed := none
  ksgSt := .unset
  pp := none
  token := none
  faRaw := none
  fa := none
  seed0 := none
  lenParam := none
  fb := none
  idx := none
  waitCnt := none
  digest := none
  ready := false
  phase := .noSession
  upc := .h0
  err := .ok
  fault := none
  len := 0#32
  img := []
  waitLimit := .unbounded
  failPolicy := .surface
  port := []
  result := none
  peer := []
  draws := 0
  trace := []

end Sys2Proof.Machine
end

