-- ==== Sys2Proof/Machine/Ops.lean ====
section
/-! DEFINITION. The shared operations over the state: reading the image, exchanging a word, taking a session error,
raising a model fault, returning a result, moving the sequencer on, session and block reset. -/

namespace Sys2Proof.Machine

/-! ### The image space (20_memory.md) -/

/-- The byte at an address. -/
def Memory.read : Memory → Nat → Byte
  | [], _ => Config.blankByte
  | (b, v) :: rest, a => if b = a then v else Memory.read rest a

/-- A cell in front of a memory, or nothing when its byte is what an unlisted address reads as. -/
def Memory.cons (a : Nat) (v : Byte) (m : Memory) : Memory :=
  if v = Config.blankByte then m else (a, v) :: m

/-- Set the byte at an address, keeping the canonical form. No operation of the block writes memory (R8, R46): this is how
an image is laid out before a run. -/
def Memory.write : Memory → Nat → Byte → Memory
  | [], a, v => Memory.cons a v []
  | (b, u) :: rest, a, v =>
    if a < b then Memory.cons a v ((b, u) :: rest)
    else if a = b then Memory.cons a v rest
    else (b, u) :: Memory.write rest a v

/-- The canonical form from an address up: addresses strictly rising from `lo`, no blank byte listed. -/
def Memory.wfFrom : Nat → Memory → Bool
  | _, [] => true
  | lo, (a, v) :: rest => decide (lo ≤ a) && v != Config.blankByte && Memory.wfFrom (a + 1) rest

/-- The canonical form. -/
def Memory.wf (m : Memory) : Bool := Memory.wfFrom 0 m

/-- Lay bytes out from an address up. -/
def Memory.writeBytes (m : Memory) (a : Nat) : List Byte → Memory
  | [] => m
  | v :: rest => Memory.writeBytes (m.write a v) (a + 1) rest

/-- `ImgRead8(a)` (R8): the byte below `LEN`, else `F_IMG_BOUNDS`. -/
def State.imgRead8 (s : State) (a : Nat) : Except Fault Byte :=
  if a < s.len.toNat then .ok (s.img.read a) else .error .imgBounds

/-- `MemRead(a, 2)` (R8), little-endian. -/
def State.memRead2 (s : State) (a : Nat) : Except Fault Half := do
  let b0 ← s.imgRead8 a
  let b1 ← s.imgRead8 (a + 1)
  return b0.setWidth 16 ||| b1.setWidth 16 <<< 8

/-- `MemRead(a, 4)` (R8), little-endian. -/
def State.memRead4 (s : State) (a : Nat) : Except Fault Word := do
  let b0 ← s.imgRead8 a
  let b1 ← s.imgRead8 (a + 1)
  let b2 ← s.imgRead8 (a + 2)
  let b3 ← s.imgRead8 (a + 3)
  return b0.setWidth 32 ||| b1.setWidth 32 <<< 8 ||| b2.setWidth 32 <<< 16 ||| b3.setWidth 32 <<< 24

/-! ### Registers -/

/-- Read a register that may hold `NONE` (R7): `F_NO_VALUE` when it does. -/
def need {α : Type} : Option α → Except Fault α
  | some v => .ok v
  | none => .error .noValue

/-! ### Results, model faults, session errors -/

/-- The code of `ERR` (R25). -/
def ErrKind.code : ErrKind → Word
  | .ok => 0#32
  | .failedHandshake => 1#32
  | .transmissionError => 2#32
  | .invalidChecksum => 3#32
  | .transportError => 4#32
  | .checksumTimeout => 5#32
  | .configError => 6#32

/-- `result <- v` (R10): the operation returns `v` on the port. -/
def State.returns (s : State) (v : Word) : State := { s with result := some v }

/-- `fault f` (R104): no architectural state changes, no result is returned, `FAULT` keeps the first fault. -/
def State.modelFault (s : State) (f : Fault) : State :=
  { s with fault := some (s.fault.getD f), result := none }

/-- What an operation leaves: its state, or the model fault it raised on the state it started from. -/
def State.orFault (s : State) : Except Fault State → State
  | .ok s' => s'
  | .error f => s.modelFault f

/-- `raise k` (R97): `PHASE` becomes FAILED, `ERR` the kind, `SEQ_MULTIBOOT` returns its code; `UPC` and everything else
stand as they are. -/
def State.raise (s : State) (k : ErrKind) : State :=
  { s with phase := .failed, err := k, result := some k.code }

/-! ### The sequencer's position -/

/-- While `PHASE` is 2 to 5, `SEQ_MULTIBOOT` is running and the block performs micro-steps (R23, R71). -/
def Phase.running : Phase → Bool
  | .headerSent => true
  | .keysExchanged => true
  | .transferring => true
  | .validating => true
  | .noSession => false
  | .probing => false
  | .completed => false
  | .failed => false

/-- `phase_of` (R71). -/
def phaseOf : MicroStep → Phase
  | .h0 => .headerSent
  | .hdr _ => .headerSent
  | .h97 => .headerSent
  | .k0 => .keysExchanged
  | .k1 => .keysExchanged
  | .k2 => .keysExchanged
  | .k3 => .keysExchanged
  | .k4 => .keysExchanged
  | .t _ => .transferring
  | .v0 => .validating
  | .v1 => .validating
  | .v2 => .validating
  | .done => .completed

/-- `UPC <- u`, and `PHASE` that of the next micro-step (R71). -/
def State.advance (s : State) (u : MicroStep) : State := { s with upc := u, phase := phaseOf u }

/-- The micro-step after header word `k` (R75): `H(k+2)`, which is `H97` after `H96`. -/
def afterHeaderWord (k : Fin 96) : MicroStep :=
  if h : k.val + 1 < 96 then .hdr ⟨k.val + 1, h⟩ else .h97

/-! ### Exchanges (R9, R38 to R41, R73) -/

/-- The next answer of the transport and peer: the first of those already fixed, or a free draw (log 1). -/
def State.nextAnswer (s : State) : Xfer :=
  match s.peer with
  | x :: _ => x
  | [] => Config.freeXfer s.draws

/-- The count of free answers after the next one: it goes up when no answer was already fixed (log 1). -/
def drawsAfter (peer : List Xfer) (draws : Nat) : Nat :=
  match peer with
  | _ :: _ => draws
  | [] => draws + 1

/-- The peer has given that answer. -/
def State.dropAnswer (s : State) : State := { s with peer := s.peer.tail, draws := drawsAfter s.peer s.draws }

/-- Add an exchange to the trace. -/
def State.record (s : State) (e : WireEvent) : State := { s with trace := s.trace ++ [e] }

/-- The state after one exchange: the peer has answered and the trace has it (R9, R88). Nothing else changes. -/
def State.heard (s : State) (pos : WirePos) (w : Word) : State := s.dropAnswer.record ⟨pos, w, s.nextAnswer⟩

/-- `Xchg32(w)` (R9): one transaction, the word out and the answer back. -/
def State.xchg32 (s : State) (pos : WirePos) (w : Word) : Xfer × State := (s.nextAnswer, s.heard pos w)

/-- The response word of an answer; none is `XFAIL`. -/
def responseOf : Xfer → Option Word
  | .ok r => some r
  | .xfail => none

/-- `Xchg16(h)` (R9, R40): `Xchg32` of `zext_32(h)`, returning `r[31:16]`; none is `XFAIL`. -/
def State.xchg16 (s : State) (pos : WirePos) (h : Half) : Option Half × State :=
  let p := s.xchg32 pos (zext16 h)
  ((responseOf p.1).map hi16, p.2)

/-- What a failed exchange reads as under the policy (R41): nothing (the caller raises), or zero. -/
def underPolicy {n : Nat} (p : FailPolicy) : Option (BitVec n) → Option (BitVec n)
  | some r => some r
  | none =>
    match p with
    | .surface => none
    | .asZero => some 0#n

/-- `X16(h)` (R73), used by `SEQ_PROBE` as well (R70): none is a failure to be surfaced. -/
def State.x16 (s : State) (pos : WirePos) (h : Half) : Option Half × State :=
  let p := s.xchg16 pos h
  (underPolicy s.failPolicy p.1, p.2)

/-- `X32(w)` (R73): none is a failure to be surfaced. -/
def State.x32 (s : State) (pos : WirePos) (w : Word) : Option Word × State :=
  let p := s.xchg32 pos w
  (underPolicy s.failPolicy (responseOf p.1), p.2)

/-! ### Reset -/

/-- Every register of 10_state.md R14 to R25 at its reset value (R31, R32), and the session's trace empty (log 14). -/
def State.clearSession (s : State) : State :=
  { s with
    crcReg := none, crcFin := none, crcSt := .unset, ksgSeed := none, ksgSt := .unset, pp := none, token := none,
    faRaw := none, fa := none, seed0 := none, lenParam := none, fb := none, idx := none, waitCnt := none,
    digest := none, ready := false, phase := .noSession, upc := .h0, err := .ok, trace := [] }

/-- The reset event (R112): every register at its reset value, `FAULT` unchanged (R31); the image and the parameters are
constants of the run (R37). Log 13. -/
def State.blockReset (s : State) : State := { s.clearSession with result := none }

end Sys2Proof.Machine
end

