-- ==== Sys2Proof/Machine/Flags.lean ====
section
/-! DEFINITION. The block's status: the codes of its fields and the `STATUS` view (10_state.md R17, R20, R22, R23, R25,
R26). There is no flags register of a processor. -/

namespace Sys2Proof.Machine

/-- The code of `PHASE` (R23). -/
def Phase.code : Phase → Word
  | .noSession => 0#32
  | .probing => 1#32
  | .headerSent => 2#32
  | .keysExchanged => 3#32
  | .transferring => 4#32
  | .validating => 5#32
  | .completed => 6#32
  | .failed => 7#32

/-- The value of `CRC.ST` (R17). -/
def CrcSt.code : CrcSt → Word
  | .unset => 0#32
  | .live => 1#32
  | .digested => 2#32

/-- The value of `KSG.ST` (R20). -/
def KsgSt.code : KsgSt → Word
  | .unset => 0#32
  | .live => 1#32

/-- The value of `READY` (R22), widened. -/
def readyCode (b : Bool) : Word := if b then 1#32 else 0#32

/-- `STATUS` (R26): `PHASE` in 2:0, `READY` in 3, `ERR` in 6:4, `CRC.ST` in 9:8, `KSG.ST` in 10, all other bits zero. -/
def State.statusWord (s : State) : Word :=
  s.phase.code ||| readyCode s.ready <<< 3 ||| s.err.code <<< 4 ||| s.crcSt.code <<< 8 ||| s.ksgSt.code <<< 10

/-- What `SEQ_PROBE` returns when its exchange failed (R70): bits 6:4 = 4. -/
def probeFailedResult : Word := ErrKind.transportError.code <<< 4

end Sys2Proof.Machine
end

