-- ==== Sys2Proof/Machine/Operands.lean ====
section
/-! DEFINITION. The operands of the micro-steps: what the sequencer takes from the image and from its length
(20_memory.md R33 to R35), and the values it derives from received bytes (42_sequencer.md R79, R81). -/

namespace Sys2Proof.Machine

/-- `AL`, the length rounded down to a multiple of 16 (R33). -/
def State.alignedLen (s : State) : Nat := (s.len &&& 0xFFFFFFF0#32).toNat

/-- `N`, the number of payload words (R33), for `LEN >= 192`. -/
def State.payloadWords (s : State) : Nat := (s.alignedLen - Config.hdrLen) / 4

/-- Header word `k` (R34). -/
def State.headerWord (s : State) (k : Fin 96) : Except Fault Half := s.memRead2 (2 * k.val)

/-- The byte offset of payload word `i` (R35). -/
def payloadOffset (i : Nat) : Nat := Config.hdrLen + 4 * i

/-- Payload word `i`, in plaintext (R35). -/
def State.payloadWord (s : State) (i : Nat) : Except Fault Word := s.memRead4 (payloadOffset i)

/-- `WI`, the word index of payload word `i` (R82). -/
def wordIndex (i : Nat) : Word := BitVec.ofNat 32 (payloadOffset i)

/-- The length parameter `(N - 0x34) mod 2^16` (R81). -/
def State.lengthParam (s : State) : Half := BitVec.ofNat 16 s.payloadWords - Config.lenBias

/-- The high byte of a 16-bit value. -/
def hi8 (h : Half) : Byte := h.extractLsb' 8 8

/-- The low byte of a 16-bit value. -/
def loByte (h : Half) : Byte := h.setWidth 8

/-- The keystream seed from the unadjusted finalA and `PP` (R79). -/
def deriveSeed (faRaw pp : Byte) : Word := Config.seedHi ||| zext8 faRaw <<< 8 ||| zext8 pp

/-- The finalize value from finalA and finalB (R60, 10_state.md R16). -/
def finalizeValue (finalA finalB : Byte) : Word := Config.crcFinHi ||| zext8 finalB <<< 8 ||| zext8 finalA

end Sys2Proof.Machine
end

