-- ==== Sys2Proof/Machine/Session.lean ====
section
/-! DEFINITION. The sequencer's host operations (42_sequencer.md R69 to R72) and the wire word of the probe. -/

namespace Sys2Proof.Machine

/-- The session `SEQ_NEW` constructs when the image is long enough (R69). -/
def State.openSession (s : State) (cfg : Byte) : State :=
  { s with pp := some (Config.ppBase ||| cfg), idx := some 0#32, waitCnt := some 0, phase := .probing, err := .ok }

/-- `SEQ_NEW cfg` (R69): the session reset, then the length check (60_exceptions.md R95). -/
def execSeqNew (cfg : Byte) (s : State) : Host.Outcome State Fault Refusal :=
  let s0 := s.clearSession
  if s.len.toNat < Config.hdrLen then .next ({ s0 with err := .configError }.returns ErrKind.configError.code)
  else .next ((s0.openSession cfg).returns 0#32)

/-- The probe's exchange and what it leaves (R70). -/
def State.probeExchange (s : State) : State :=
  match s.x16 .probe Config.cmdProbe with
  | (none, s') => { s' with ready := false }.returns probeFailedResult
  | (some r, s') => { s' with ready := r == Config.rspProbe }.returns (readyCode (r == Config.rspProbe))

/-- `SEQ_PROBE` (R70): one step, its one exchange included (00_scope.md R2; log 9). -/
def execSeqProbe (s : State) : Host.Outcome State Fault Refusal :=
  if s.phase = .probing then .next s.probeExchange else .next (s.modelFault .wrongPhase)

/-- `W_PROBE` (R70): the word `SEQ_PROBE` exchanges. It is a word of the wire only inside a probe, so only in PROBING
(30_encoding.md R54; logs 9 and 10). -/
def execWProbe (s : State) : Host.Outcome State Fault Refusal :=
  if s.phase = .probing then .next s.probeExchange else .refused (.notSent "W_PROBE")

/-- `SEQ_MULTIBOOT` (R71): the operation is taken up, `UPC` is H0 and `PHASE` HEADER_SENT; the micro-steps follow, one a
step, and the last of them returns its result (log 8). -/
def execSeqMultiboot (s : State) : Host.Outcome State Fault Refusal :=
  if s.phase = .probing then .next { s with upc := .h0, phase := .headerSent, result := none }
  else .next (s.modelFault .wrongPhase)

/-- `STATUS_READ` (R72). -/
def execStatusRead (s : State) : Host.Outcome State Fault Refusal := .next (s.returns s.statusWord)

end Sys2Proof.Machine
end

