-- ==== Sys2Proof/Machine/Crc.lean ====
section
/-! DEFINITION. The CRC-16 checksum unit (40_checksum.md): the bit step, the word step, the bodies of the three operations
(which the sequencer's K4, T(i) and V2 perform as well), and the meanings of the three host operations. -/

namespace Sys2Proof.Machine

/-- The bit step (R59): the bit from the old register and value, then the shifts, then the XOR. -/
def crcBit (reg value : Word) : Word × Word :=
  let bit := (reg ^^^ value) &&& 1#32
  let shifted := reg >>> 1
  (if bit = 1#32 then shifted ^^^ Config.crcPoly else shifted, value >>> 1)

/-- `n` bit steps; the register they leave. -/
def crcBits : Nat → Word → Word → Word
  | 0, reg, _ => reg
  | n + 1, reg, value => crcBits n (crcBit reg value).1 (crcBit reg value).2

/-- `S(r, v)` (R63): the register after one word step, all 32 bit iterations (R61). -/
def crcWord (reg value : Word) : Word := crcBits 32 reg value

/-- The lifecycle check of a step or digest (R61, R62). -/
def CrcSt.check : CrcSt → Except Fault Unit
  | .unset => .error .crcUnset
  | .digested => .error .crcDigested
  | .live => .ok ()

/-- The body of `CRC_INIT` (R60): constructs the unit, in every state. -/
def State.crcNew (s : State) (finalA finalB : Byte) : State :=
  { s with crcFin := some (finalizeValue finalA finalB), crcReg := some Config.crcSeed, crcSt := .live }

/-- The body of `CRC_STEP` (R61). -/
def State.crcStep (s : State) (value : Word) : Except Fault State := do
  s.crcSt.check
  let reg ← need s.crcReg
  return { s with crcReg := some (crcWord reg value) }

/-- The body of `CRC_DIGEST` (R62): the digest and the state it leaves. -/
def State.crcDigest (s : State) : Except Fault (Half × State) := do
  s.crcSt.check
  let reg ← need s.crcReg
  let fin ← need s.crcFin
  return (lo16 (crcWord reg fin), { s with crcReg := some (crcWord reg fin), crcSt := .digested })

/-- `CRC_INIT finalA, finalB` (R60). -/
def execCrcInit (finalA finalB : Byte) (s : State) : Host.Outcome State Fault Refusal :=
  .next ((s.crcNew finalA finalB).returns 0#32)

/-- `CRC_STEP value` (R61). -/
def execCrcStep (value : Word) (s : State) : Host.Outcome State Fault Refusal :=
  .next (s.orFault ((s.crcStep value).map fun s' => s'.returns 0#32))

/-- `CRC_DIGEST` (R62): returns the digest, widened. -/
def execCrcDigest (s : State) : Host.Outcome State Fault Refusal :=
  .next (s.orFault (s.crcDigest.map fun p => p.2.returns (zext16 p.1)))

end Sys2Proof.Machine
end

