-- ==== Sys2Proof/Machine/Ksg.lean ====
section
/-! DEFINITION. The linear keystream generator (41_keystream.md): the recurrence, the bodies of the two operations (which
the sequencer's K4 and T(i) perform as well), and the meanings of the two host operations. -/

namespace Sys2Proof.Machine

/-- The seed after one step (R66), modulo 2^32. -/
def ksgNext (seed : Word) : Word := seed * Config.ksgMul + Config.ksgInc

/-- The output of a step from the UPDATED seed (R66). -/
def ksgOut (seed value index : Word) : Word :=
  seed ^^^ value ^^^ (Config.ksgIdxBase - index) ^^^ Config.ksgMask

/-- The lifecycle check of a step (R66). -/
def KsgSt.check : KsgSt → Except Fault Unit
  | .unset => .error .ksgUnset
  | .live => .ok ()

/-- The body of `KSG_INIT` (R65): constructs the generator, in every state. -/
def State.ksgNew (s : State) (seed : Word) : State := { s with ksgSeed := some seed, ksgSt := .live }

/-- The body of `KSG_STEP` (R66): the ciphertext and the state it leaves. -/
def State.ksgStep (s : State) (value index : Word) : Except Fault (Word × State) := do
  s.ksgSt.check
  let seed ← need s.ksgSeed
  return (ksgOut (ksgNext seed) value index, { s with ksgSeed := some (ksgNext seed) })

/-- `KSG_INIT seed` (R65). -/
def execKsgInit (seed : Word) (s : State) : Host.Outcome State Fault Refusal :=
  .next ((s.ksgNew seed).returns 0#32)

/-- `KSG_STEP value, index` (R66): any index (R68). -/
def execKsgStep (value index : Word) (s : State) : Host.Outcome State Fault Refusal :=
  .next (s.orFault ((s.ksgStep value index).map fun p => p.2.returns p.1))

end Sys2Proof.Machine
end

