-- ==== Sys2Proof/Machine/Wire.lean ====
section
/-! DEFINITION. The micro-program (42_sequencer.md R73 to R86). A micro-step is three things in order: `prepare`, what it
does before its exchange and the word it sends (R96: those updates stay made if the exchange fails); the exchange, X16 or
X32 (R73); and what it does with the response. The meanings of the wire words are the micro-steps. -/

namespace Sys2Proof.Machine

/-- What the micro-step at `u` does before its exchange: the 32-bit word it sends and the state with the updates its rule
lists before the exchange. A model fault here undoes the micro-step (R104). `DONE` is no micro-step: no running sequencer
stands there (log 15). -/
def State.prepare (s : State) : MicroStep → Except Fault (Word × State)
  | .h0 => .ok (zext16 Config.cmdHdrStart, s)
  | .hdr k => do
    let h ← s.headerWord k
    return (zext16 h, s)
  | .h97 => .ok (zext16 Config.cmdHdrEnd, s)
  | .k0 => .ok (zext16 Config.cmdProbe, s)
  | .k1 => do
    let pp ← need s.pp
    return (zext16 (withParam Config.cmdKey pp), s)
  | .k2 => do
    let pp ← need s.pp
    return (zext16 (withParam Config.cmdKey pp), s)
  | .k3 => do
    let fa ← need s.fa
    return (zext16 (withParam Config.cmdCrcA fa), s)
  | .k4 => .ok (zext16 s.lengthParam, { s with lenParam := some s.lengthParam })
  | .t i => do
    let w ← s.payloadWord i
    let s1 ← s.crcStep w
    s1.ksgStep w (wordIndex i)
  | .v0 => .ok (zext16 Config.cmdWait, s)
  | .v1 => .ok (zext16 Config.cmdCsum, s)
  | .v2 => do
    let p ← s.crcDigest
    return (zext16 p.1, { p.2 with digest := some p.1 })
  | .done => .error .noValue

/-- What a micro-step that started in `s` leaves after its exchange `p` (R73, R98): a surfaced failure raises
TransportError before anything else; else `fin` goes on with the response. -/
def State.afterExchange {α : Type} (s : State) (p : Option α × State) (fin : α → State → Except Fault State) : State :=
  match p with
  | (none, s2) => s2.raise .transportError
  | (some r, s2) => s.orFault (fin r s2)

/-- The micro-step at `u` that sends the word `w`. A wire word is an instruction only within its micro-step (R54): where
the sequencer does not stand at `u`, or would send another word there, the instruction has no meaning (log 10). -/
def microStep {α : Type} (mnemonic : String) (u : MicroStep) (w : Word) (exchange : State → Option α × State)
    (fin : α → State → Except Fault State) (s : State) : Host.Outcome State Fault Refusal :=
  if s.phase.running = true ∧ s.upc = u then
    match s.prepare u with
    | .error f => .next (s.modelFault f)
    | .ok (w', s1) =>
      if w' = w then .next (s.afterExchange (exchange s1) fin) else .refused (.notSent mnemonic)
  else .refused (.notSent mnemonic)

/-- A micro-step of format W16 (R51): it sends `zext_32(h)` and goes on with `r[31:16]`. -/
def microStep16 (mnemonic : String) (u : MicroStep) (h : Half) (fin : Half → State → Except Fault State) (s : State) :
    Host.Outcome State Fault Refusal :=
  microStep mnemonic u (zext16 h) (fun s1 => s1.x16 (.micro u) h) fin s

/-- A micro-step of format W32 (R51): it sends `w` and goes on with `r`. -/
def microStep32 (mnemonic : String) (u : MicroStep) (w : Word) (fin : Word → State → Except Fault State) (s : State) :
    Host.Outcome State Fault Refusal :=
  microStep mnemonic u w (fun s1 => s1.x32 (.micro u) w) fin s

/-- A micro-step that discards its response (30_encoding.md R53) goes on to `u`. -/
def goOn {α : Type} (u : MicroStep) : α → State → Except Fault State := fun _ s => .ok (s.advance u)

/-! ### Phase HeaderSent -/

/-- H0 (R74). -/
def execWHdrStart (s : State) : Host.Outcome State Fault Refusal :=
  microStep16 "W_HDR_START" .h0 Config.cmdHdrStart (goOn (.hdr 0)) s

/-- H(k+1) (R75). -/
def execWHdrWord (k : Fin 96) (h : Half) (s : State) : Host.Outcome State Fault Refusal :=
  microStep16 "W_HDR_WORD" (.hdr k) h (goOn (afterHeaderWord k)) s

/-- H97 (R76). -/
def execWHdrEnd (s : State) : Host.Outcome State Fault Refusal :=
  microStep16 "W_HDR_END" .h97 Config.cmdHdrEnd (goOn .k0) s

/-! ### Phase KeysExchanged -/

/-- K0 (R77). -/
def execWKeyProbe (s : State) : Host.Outcome State Fault Refusal :=
  microStep16 "W_KEY_PROBE" .k0 Config.cmdProbe (goOn .k1) s

/-- K1 (R78). -/
def execWKeyPrime (pp : Byte) (s : State) : Host.Outcome State Fault Refusal :=
  microStep16 "W_KEY_PRIME" .k1 (withParam Config.cmdKey pp) (goOn .k2) s

/-- K2 after its exchange (R79): the token `t` is kept, then checked, then finalA and the seed are derived from it, the
seed from the unadjusted finalA. -/
def keyFetched (t : Half) (s : State) : Except Fault State :=
  let s1 := { s with token := some t }
  if hi8 t = Config.tokenMark then do
    let pp ← need s1.pp
    return { s1 with
      faRaw := some (loByte t), seed0 := some (deriveSeed (loByte t) pp),
      fa := some (loByte t + Config.faAdj) }.advance .k3
  else .ok (s1.raise .failedHandshake)

/-- K2 (R79). -/
def execWKeyFetch (pp : Byte) (s : State) : Host.Outcome State Fault Refusal :=
  microStep16 "W_KEY_FETCH" .k2 (withParam Config.cmdKey pp) keyFetched s

/-- K3 (R80). -/
def execWCrcA (fa : Byte) (s : State) : Host.Outcome State Fault Refusal :=
  microStep16 "W_CRC_A" .k3 (withParam Config.cmdCrcA fa) (goOn .k4) s

/-- The micro-step after K4 (R81): the first payload word, or the wait when there is none. -/
def State.afterKeys (s : State) : MicroStep := if 0 < s.payloadWords then .t 0 else .v0

/-- K4 after its exchange (R81): finalB from the response's low byte, then both units are constructed. -/
def lengthSent (r : Half) (s : State) : Except Fault State := do
  let fa ← need s.fa
  let seed0 ← need s.seed0
  return (({ s with fb := some (loByte r) }.crcNew fa (loByte r)).ksgNew seed0).advance s.afterKeys

/-- K4 (R81). -/
def execWLen (lenParam : Half) (s : State) : Host.Outcome State Fault Refusal :=
  microStep16 "W_LEN" .k4 lenParam lengthSent s

/-! ### Phase Transferring -/

/-- The micro-step after T(i) (R82). -/
def State.afterPayload (s : State) (i : Nat) : MicroStep := if i + 1 < s.payloadWords then .t (i + 1) else .v0

/-- T(i) after its exchange (R82, R83): the acknowledgement, 16 bits only, then the count. -/
def payloadSent (i : Nat) (r : Word) (s : State) : Except Fault State :=
  if hi16 r = lo16 (wordIndex i) then .ok ({ s with idx := some (BitVec.ofNat 32 (i + 1)) }.advance (s.afterPayload i))
  else .ok (s.raise .transmissionError)

/-- T(i) (R82). -/
def execWPayload (i : Nat) (c : Word) (s : State) : Host.Outcome State Fault Refusal :=
  microStep32 "W_PAYLOAD" (.t i) c (payloadSent i) s

/-! ### Phase Validating -/

/-- Whether the wait has reached its bound after `n` exchanges (R84). -/
def limitReached : WaitLimit → Nat → Bool
  | .unbounded, _ => false
  | .bounded m, n => decide (m ≤ n)

/-- V0 after its exchange (R84, R98): the count, then the exit, then the bound. -/
def waited (r : Half) (s : State) : Except Fault State := do
  let c ← need s.waitCnt
  let s1 := { s with waitCnt := some (c + 1) }
  if r = Config.rspWait then return s1.advance .v1
  else if limitReached s1.waitLimit (c + 1) then return s1.raise .checksumTimeout
  else return s1.advance .v0

/-- V0 (R84). -/
def execWWait (s : State) : Host.Outcome State Fault Refusal :=
  microStep16 "W_WAIT" .v0 Config.cmdWait waited s

/-- V1 (R85). -/
def execWCsumStart (s : State) : Host.Outcome State Fault Refusal :=
  microStep16 "W_CSUM_START" .v1 Config.cmdCsum (goOn .v2) s

/-- V2 after its exchange (R86): the echo must be the digest `d`; the session is then complete and `SEQ_MULTIBOOT` returns
its `ERR` (R71). -/
def digestSent (d r : Half) (s : State) : Except Fault State :=
  if r = d then .ok (({ s with err := .ok }.advance .done).returns ErrKind.ok.code)
  else .ok (s.raise .invalidChecksum)

/-- V2 (R86). -/
def execWCsumValue (digest : Half) (s : State) : Host.Outcome State Fault Refusal :=
  microStep16 "W_CSUM_VALUE" .v2 digest (digestSent digest) s

end Sys2Proof.Machine
end

