-- ==== Sys2Proof/Machine/Dispatch.lean ====
section
/-! DEFINITION. One arm per instruction, each one call of its meaning. -/

namespace Sys2Proof.Machine

def exec (i : Instr) (s : State) : Host.Outcome State Fault Refusal :=
  match i with
  -- host operations
  | .crcInit finalA finalB => Sys2Proof.Machine.execCrcInit finalA finalB s
  | .crcStep value => Sys2Proof.Machine.execCrcStep value s
  | .crcDigest => Sys2Proof.Machine.execCrcDigest s
  | .ksgInit seed => Sys2Proof.Machine.execKsgInit seed s
  | .ksgStep value index => Sys2Proof.Machine.execKsgStep value index s
  | .seqNew cfg => Sys2Proof.Machine.execSeqNew cfg s
  | .seqProbe => Sys2Proof.Machine.execSeqProbe s
  | .seqMultiboot => Sys2Proof.Machine.execSeqMultiboot s
  | .statusRead => Sys2Proof.Machine.execStatusRead s
  -- wire words
  | .wProbe => Sys2Proof.Machine.execWProbe s
  | .wHdrStart => Sys2Proof.Machine.execWHdrStart s
  | .wHdrWord k h => Sys2Proof.Machine.execWHdrWord k h s
  | .wHdrEnd => Sys2Proof.Machine.execWHdrEnd s
  | .wKeyProbe => Sys2Proof.Machine.execWKeyProbe s
  | .wKeyPrime pp => Sys2Proof.Machine.execWKeyPrime pp s
  | .wKeyFetch pp => Sys2Proof.Machine.execWKeyFetch pp s
  | .wCrcA fa => Sys2Proof.Machine.execWCrcA fa s
  | .wLen lenParam => Sys2Proof.Machine.execWLen lenParam s
  | .wPayload i' c => Sys2Proof.Machine.execWPayload i' c s
  | .wWait => Sys2Proof.Machine.execWWait s
  | .wCsumStart => Sys2Proof.Machine.execWCsumStart s
  | .wCsumValue digest => Sys2Proof.Machine.execWCsumValue digest s

end Sys2Proof.Machine
end

