-- ==== Sys2Proof/Machine/Fetch.lean ====
section
/-! DEFINITION. What the block does next (00_scope.md R1, 30_encoding.md R47, 42_sequencer.md R71): a micro-step while
`SEQ_MULTIBOOT` runs, else the next event of the port, else nothing. And how an instruction is placed so that it is the
next one (log 12). -/

namespace Sys2Proof.Machine

/-- What a step finds to do, with the state it does it in. -/
inductive Fetched where
  /-- no operation runs and the host issues none: the block is idle (60_exceptions.md R111) -/
  | idle
  /-- the reset event arrives between operations (70_reset_and_hazards.md R112) -/
  | reset (s : State)
  /-- a host operation is a reserved encoding, or the micro-step at `UPC` cannot form its word: a model fault (R104) -/
  | fault (f : Fault) (s : State)
  /-- an instruction -/
  | run (i : Instr) (s : State)
  /-- the sequencer formed a word that is no row of its micro-step; it never does -/
  | noRow

/-- While `SEQ_MULTIBOOT` runs: the word the micro-step at `UPC` sends, read as the row of that position (R54). -/
def State.fetchMicro (s : State) : Fetched :=
  match s.prepare s.upc with
  | .error f => .fault f s
  | .ok p =>
    match decodeWire (.micro s.upc) p.1 with
    | .ok i => .run i s
    | .error _ => .noRow

/-- Between operations: the next event of the port. A reserved encoding spells no operation (R50). -/
def State.fetchPort (s : State) : Fetched :=
  match s.port with
  | [] => .idle
  | .reset :: rest => .reset { s with port := rest }
  | .op o :: rest =>
    match decodeHost o with
    | .ok i => .run i { s with port := rest }
    | .error _ => .fault .reservedOp { s with port := rest }

/-- The port is read only between operations (R122). -/
def State.fetch (s : State) : Fetched := if s.phase.running then s.fetchMicro else s.fetchPort

/-- The phase in which the block takes port events: its own, unless an operation is running. -/
def State.betweenOps (s : State) : State := if s.phase.running then { s with phase := .probing } else s

/-- A host operation as the next event of the port. -/
def State.placeOp (s : State) (o : HostOp) : State := { s.betweenOps with port := .op o :: s.port }

/-- A sequencer that stands at a micro-step. -/
def State.standAt (s : State) (u : MicroStep) : State := { s with upc := u, phase := phaseOf u, result := none }

/-- An image long enough for a session with at least one payload word. -/
def State.longEnough (s : State) : State := if s.len.toNat < 208 then { s with len := 208#32 } else s

/-- Both units constructed, so that a payload word or a digest can be formed. -/
def State.unitsLive (s : State) : State := ((s.crcNew 0#8 0#8).ksgNew 0#32)

/-- A 16-bit value laid out in the image, little-endian. -/
def State.layHalf (s : State) (a : Nat) (h : Half) : State := { s with img := s.img.writeBytes a [loByte h, hi8 h] }

/-- A 32-bit value laid out in the image, little-endian. -/
def State.layWord (s : State) (a : Nat) (w : Word) : State :=
  let bytes := [lo8 w, w.extractLsb' 8 8, w.extractLsb' 16 8, w.extractLsb' 24 8]
  { s with img := s.img.writeBytes a bytes }

/-- The registers, units and image bytes that make the micro-step of a wire word send exactly that word. A length word and
a digest are what `LEN` and the CRC unit give; no bare word is read as one of them (log 11). -/
def State.supply (s : State) : Instr → State
  | .wHdrWord k h => s.longEnough.layHalf (2 * k.val) h
  | .wKeyPrime pp => { s with pp := some pp }
  | .wKeyFetch pp => { s with pp := some pp }
  | .wCrcA fa => { s with fa := some fa }
  | .wLen _ => { s.longEnough with fa := some 0#8, seed0 := some 0#32 }
  | .wPayload i c =>
    s.longEnough.unitsLive.layWord (payloadOffset i) (ksgOut (ksgNext 0#32) c (wordIndex i))
  | .wWait => { s with waitCnt := some 0 }
  | .wCsumValue _ => s.unitsLive
  | .crcInit _ _ => s
  | .crcStep _ => s
  | .crcDigest => s
  | .ksgInit _ => s
  | .ksgStep _ _ => s
  | .seqNew _ => s
  | .seqProbe => s
  | .seqMultiboot => s
  | .statusRead => s
  | .wProbe => s
  | .wHdrStart => s
  | .wHdrEnd => s
  | .wKeyProbe => s
  | .wCsumStart => s

/-- Place the instruction that the table word stands for so that the very next step runs it (log 12): a host operation on
the port; a wire word by a sequencer standing at its micro-step with what the word is formed from; the probe's word by a
`SEQ_PROBE` in PROBING. Bits that are no instruction are placed on the port, where the step refuses them. -/
def State.placeTableWord (s : State) (nbits w : Nat) : State :=
  match decodeTableWord nbits w with
  | none =>
    let v := w % 2 ^ nbits
    s.placeOp ⟨BitVec.ofNat 32 v, BitVec.ofNat 32 (v / 2 ^ 32), BitVec.ofNat 32 (v / 2 ^ 64)⟩
  | some i =>
    match encode i with
    | .host o => s.placeOp o
    | .wire .probe _ => { s with phase := .probing, port := .op ⟨0x9#32, 0#32, 0#32⟩ :: s.port }
    | .wire (.micro u) _ => (s.supply i).standAt u

end Sys2Proof.Machine
end

