-- ==== Sys2Proof/Machine/Step.lean ====
section
/-! DEFINITION. One step of the machine (00_scope.md R2), and the host's way of placing an instruction. -/

namespace Sys2Proof.Machine

/-- One step: a micro-step while `SEQ_MULTIBOOT` runs, else one port event, else the block holds its state. -/
def step (s : State) : Host.Outcome State Fault Refusal :=
  match s.fetch with
  | .idle => .next s
  | .reset s' => .next s'.blockReset
  | .fault f s' => .next (s'.modelFault f)
  | .run i s' => exec i s'
  | .noRow => .refused (.notSent "no row of the wire table")

/-- `s` with the table word placed so that the next step runs it (log 12). -/
def State.withFetchWord (s : State) (nbits w : Nat) : State := s.placeTableWord nbits w

end Sys2Proof.Machine
end

