-- ==== Sys2Proof/Safety.lean ====
section
/-! DEFINITION. What counts as a safe run and as the end of one, and the invariants claims are stated over. -/

namespace Sys2Proof.Machine

/-- No model fault has been recorded (60_exceptions.md R104). A claim about a program that meets a model fault says
nothing about the hardware (R103), so a claim about the hardware asks this of the state it ends in (log 6). -/
def State.faultFree (s : State) : Prop := s.fault = none

/-- The end of a `SEQ_MULTIBOOT` run (70_reset_and_hazards.md R125): COMPLETED or FAILED, the result returned. -/
def State.ended (s : State) : Prop :=
  (s.phase = .completed ∨ s.phase = .failed) ∧ s.result = some s.err.code

/-- The launch inputs, constants of a run (20_memory.md R37, 70_reset_and_hazards.md R121). -/
def State.sameLaunch (s s' : State) : Prop :=
  s'.len = s.len ∧ s'.img = s.img ∧ s'.waitLimit = s.waitLimit ∧ s'.failPolicy = s.failPolicy

/-- No operation runs and the next event of the port is the host operation `o` (30_encoding.md R47). -/
def State.takes (s : State) (o : HostOp) (rest : List PortEvent) : Prop :=
  s.phase.running = false ∧ s.port = .op o :: rest

/-- The host operations of 30_encoding.md R48 and R49, said of the three words themselves: every other triple spells no
operation (R50). -/
def spellsOperation (o : HostOp) : Prop :=
  (o.cmd = 0x1#32 ∧ o.a.toNat < 256 ∧ o.b.toNat < 256) ∨
  (o.cmd = 0x2#32 ∧ o.b = 0#32) ∨
  (o.cmd = 0x3#32 ∧ o.a = 0#32 ∧ o.b = 0#32) ∨
  (o.cmd = 0x4#32 ∧ o.b = 0#32) ∨
  o.cmd = 0x5#32 ∨
  (o.cmd = 0x8#32 ∧ o.a.toNat < 256 ∧ o.b = 0#32) ∨
  (o.cmd = 0x9#32 ∧ o.a = 0#32 ∧ o.b = 0#32) ∨
  (o.cmd = 0xA#32 ∧ o.a = 0#32 ∧ o.b = 0#32) ∨
  (o.cmd = 0xE#32 ∧ o.a = 0#32 ∧ o.b = 0#32)

/-! ### The invariant of the registers -/

/-- The CRC unit (10_state.md R14, R16, R17): its registers are `NONE` exactly while it is UNSET; the shift register has 16
significant bits and the finalize value is that of some byte pair. -/
def State.crcOk (s : State) : Prop :=
  (s.crcSt = .unset ∧ s.crcReg = none ∧ s.crcFin = none) ∨
  (s.crcSt ≠ .unset ∧ (∃ r, s.crcReg = some r ∧ r.toNat < 2 ^ 16) ∧
    ∃ finalA finalB, s.crcFin = some (finalizeValue finalA finalB))

/-- The keystream unit (10_state.md R18, R20): the seed is `NONE` exactly while it is UNSET. -/
def State.ksgOk (s : State) : Prop :=
  (s.ksgSt = .unset ∧ s.ksgSeed = none) ∨ (s.ksgSt = .live ∧ ∃ seed, s.ksgSeed = some seed)

/-- A session has been constructed (42_sequencer.md R69): the image is long enough, `PP` has its two fixed bits, the two
counts hold values. -/
def State.sessionOpen (s : State) : Prop :=
  192 ≤ s.len.toNat ∧ (∃ cfg, s.pp = some (0x81#8 ||| cfg)) ∧ (∃ n, s.idx = some n) ∧ ∃ n, s.waitCnt = some n

/-- `PHASE`, `UPC` and `ERR` agree (10_state.md R23 to R25): the phase is that of the micro-step while the sequencer runs,
a session error stands exactly in FAILED, and before the first micro-step the counts are 0 (R69). -/
def State.phaseOk (s : State) : Prop :=
  match s.phase with
  | .noSession => s.upc = .h0 ∧ (s.err = .ok ∨ s.err = .configError)
  | .probing => s.upc = .h0 ∧ s.err = .ok ∧ s.sessionOpen ∧ s.idx = some 0#32 ∧ s.waitCnt = some 0
  | .completed => s.upc = .done ∧ s.err = .ok ∧ s.sessionOpen
  | .failed => s.upc ≠ .done ∧ s.err ≠ .ok ∧ s.err ≠ .configError ∧ s.sessionOpen
  | .headerSent => phaseOf s.upc = .headerSent ∧ s.err = .ok ∧ s.sessionOpen
  | .keysExchanged => phaseOf s.upc = .keysExchanged ∧ s.err = .ok ∧ s.sessionOpen
  | .transferring => phaseOf s.upc = .transferring ∧ s.err = .ok ∧ s.sessionOpen
  | .validating => phaseOf s.upc = .validating ∧ s.err = .ok ∧ s.sessionOpen

/-- The key exchange has fixed the registers of K2 (42_sequencer.md R79): all from one token and `PP`. -/
def State.keyed (s : State) : Prop :=
  ∃ t pp, hi8 t = Config.tokenMark ∧ s.token = some t ∧ s.pp = some pp ∧ s.faRaw = some (loByte t) ∧
    s.fa = some (loByte t + Config.faAdj) ∧ s.seed0 = some (deriveSeed (loByte t) pp)

/-- Payload word `i` of an image, in plaintext (20_memory.md R35). -/
def Memory.plainWord (m : Memory) (i : Nat) : Word :=
  (m.read (192 + 4 * i)).setWidth 32 ||| (m.read (192 + 4 * i + 1)).setWidth 32 <<< 8 |||
    (m.read (192 + 4 * i + 2)).setWidth 32 <<< 16 ||| (m.read (192 + 4 * i + 3)).setWidth 32 <<< 24

/-- The CRC register after the first `i` payload words of an image, in order (40_checksum.md R58). -/
def Memory.crcAfter (m : Memory) : Nat → Word
  | 0 => Config.crcSeed
  | i + 1 => crcWord (m.crcAfter i) (m.plainWord i)

/-- The keystream seed after `i` steps from a seed (41_keystream.md R66, R67). -/
def ksgAfter (seed : Word) : Nat → Word
  | 0 => seed
  | i + 1 => ksgNext (ksgAfter seed i)

/-- Both units have been constructed by K4 and have consumed exactly the first `i` payload words (40_checksum.md R58,
41_keystream.md R64). -/
def State.unitsAt (s : State) (i : Nat) : Prop :=
  s.crcSt = .live ∧ s.ksgSt = .live ∧ s.crcReg = some (s.img.crcAfter i) ∧
  (∃ seed, s.seed0 = some seed ∧ s.ksgSeed = some (ksgAfter seed i)) ∧
  ∃ finalA finalB, s.fa = some finalA ∧ s.fb = some finalB ∧ s.crcFin = some (finalizeValue finalA finalB)

/-- The wait has not reached its bound (42_sequencer.md R84). -/
def State.waitOpen (s : State) : Prop := ∀ n, s.waitLimit = .bounded n → ∃ c, s.waitCnt = some c ∧ c < n

/-- What holds while the sequencer stands at a micro-step: the counts, and the registers its rule and the later ones read
(42_sequencer.md R79 to R86). -/
def State.runningOk (s : State) : Prop :=
  match s.upc with
  | .h0 => s.idx = some 0#32 ∧ s.waitCnt = some 0
  | .hdr _ => s.idx = some 0#32 ∧ s.waitCnt = some 0
  | .h97 => s.idx = some 0#32 ∧ s.waitCnt = some 0
  | .k0 => s.idx = some 0#32 ∧ s.waitCnt = some 0
  | .k1 => s.idx = some 0#32 ∧ s.waitCnt = some 0
  | .k2 => s.idx = some 0#32 ∧ s.waitCnt = some 0
  | .k3 => s.idx = some 0#32 ∧ s.waitCnt = some 0 ∧ s.keyed
  | .k4 => s.idx = some 0#32 ∧ s.waitCnt = some 0 ∧ s.keyed
  | .t i => s.idx = some (BitVec.ofNat 32 i) ∧ s.waitCnt = some 0 ∧ s.keyed ∧ i < s.payloadWords ∧ s.unitsAt i
  | .v0 => s.idx = some (BitVec.ofNat 32 s.payloadWords) ∧ s.keyed ∧ s.unitsAt s.payloadWords ∧ s.waitOpen
  | .v1 => s.idx = some (BitVec.ofNat 32 s.payloadWords) ∧ s.keyed ∧ s.unitsAt s.payloadWords
  | .v2 => s.idx = some (BitVec.ofNat 32 s.payloadWords) ∧ s.keyed ∧ s.unitsAt s.payloadWords
  | .done => False

/-- The invariant every step keeps. It rules out the states no run reaches. -/
structure State.Inv (s : State) : Prop where
  /-- the image has its canonical form -/
  imageOk : s.img.wf = true
  /-- and lists no byte outside the image space (20_memory.md R33) -/
  imageInside : ∀ c ∈ s.img, c.1 < s.len.toNat
  /-- a bound on the wait is positive (00_scope.md R3) -/
  limitOk : ∀ n, s.waitLimit = .bounded n → 1 ≤ n
  crc : s.crcOk
  ksg : s.ksgOk
  phase : s.phaseOk
  running : s.phase.running = true → s.runningOk

/-! ### Counting exchanges -/

/-- The exchanges the micro-program has made in this session: the trace without the probes (42_sequencer.md R88). -/
def State.microExchanges (s : State) : Nat := (s.trace.filter fun e => e.pos != .probe).length

/-- How many exchanges come before the micro-step at `UPC`, `WAIT_CNT` of them waits (42_sequencer.md R88). -/
def State.exchangesBefore (s : State) : Nat :=
  match s.upc with
  | .h0 => 0
  | .hdr k => k.val + 1
  | .h97 => 97
  | .k0 => 98
  | .k1 => 99
  | .k2 => 100
  | .k3 => 101
  | .k4 => 102
  | .t i => 103 + i
  | .v0 => 103 + s.payloadWords + s.waitCnt.getD 0
  | .v1 => 103 + s.payloadWords + s.waitCnt.getD 0
  | .v2 => 104 + s.payloadWords + s.waitCnt.getD 0
  | .done => 105 + s.payloadWords + s.waitCnt.getD 0

/-- The trace has as many exchanges as the position says; a failed session made the exchange of the micro-step that raised
as well, and after a timeout `WAIT_CNT` has counted it already. -/
def State.countOk (s : State) : Prop :=
  s.microExchanges =
    s.exchangesBefore + (if s.phase = .failed ∧ s.err ≠ .checksumTimeout then 1 else 0)

/-! ### A peer that plays its part -/

/-- A response word whose 16-bit view is `h`. -/
def answer16 (h : Half) : Xfer := .ok (h.setWidth 32 <<< 16)

/-- The digest of the session's payload under a token's low byte `raw` and a finalB (42_sequencer.md R79, R81, R86). -/
def State.sessionDigest (s : State) (raw finalB : Byte) : Half :=
  lo16 (crcWord (s.img.crcAfter s.payloadWords) (finalizeValue (raw + Config.faAdj) finalB))

/-- The answers of a peer that lets a session complete with one wait (95_test_vectors.md P3): token 0x73 `raw`, finalB,
every acknowledgement, the wait's exit, the digest's echo. -/
def State.honestAnswers (s : State) (raw finalB : Byte) : List Xfer :=
  List.replicate 100 (answer16 0#16) ++
  [answer16 (0x7300#16 ||| raw.setWidth 16), answer16 0#16, answer16 (finalB.setWidth 16)] ++
  (List.range s.payloadWords).map (fun i => answer16 (lo16 (wordIndex i))) ++
  [answer16 0x0075#16, answer16 0#16, answer16 (s.sessionDigest raw finalB)]

end Sys2Proof.Machine
end

