-- ==== Sys2Proof/Certificates/Slice0/Obligations.lean ====
section
/-! DEFINITION. The statements for the provers, from the numbered rules of spec/. Constants stand as the spec writes them.
A statement of the form `exec i s = .next { s with … }` is the instruction's completion and its frame at once: every field
not named is unchanged. -/

open Sys2Proof Sys2Proof.Machine

/-! ### Encoding -/

/-- 30_encoding.md R48, R49, R52, R54: a code decodes to an instruction exactly when it is what the encoder writes for that
instruction and the instruction is well formed. No bit of an encoding is dropped, and no two codes mean the same. -/
def Obligations.DecodeAndEncodeAgree : Prop :=
  ∀ (c : Code) (i : Instr), decode c = .ok i ↔ i.wellFormed = true ∧ encode i = c

/-- Words written out bit by bit from R48, R49 and R52 decode to the instruction they stand for. -/
def Obligations.SampleWordsDecode : Prop :=
  decode (.host ⟨0b0001#32, 0b00010000#32, 0b00000010#32⟩) = .ok (.crcInit 0x10#8 0x02#8) ∧
  decode (.host ⟨0b0101#32, 0x03020100#32, 0b11000000#32⟩) = .ok (.ksgStep 0x03020100#32 0xC0#32) ∧
  decode (.host ⟨0b1000#32, 0b00010000#32, 0#32⟩) = .ok (.seqNew 0x10#8) ∧
  decode (.host ⟨0b1110#32, 0#32, 0#32⟩) = .ok .statusRead ∧
  decode (.wire .probe 0b0110001000000010#32) = .ok .wProbe ∧
  decode (.wire (.micro (.hdr 86)) 0b0100001001000001#32) = .ok (.wHdrWord 86 0x4241#16) ∧
  decode (.wire (.micro .k2) 0b0110001110000001#32) = .ok (.wKeyFetch 0x81#8) ∧
  decode (.wire (.micro (.t 0)) 0x9D54409B#32) = .ok (.wPayload 0 0x9D54409B#32) ∧
  decode (.wire (.micro .v0) 0b01100101#32) = .ok .wWait

/-- R50: every triple that spells no operation is refused with `F_RESERVED_OP` and changes no state; `FAULT` keeps the
first fault (R104). -/
def Obligations.ReservedEncodingsRefused : Prop :=
  ∀ (s : State) (o : HostOp) (rest : List PortEvent), s.takes o rest → ¬ spellsOperation o →
    step s = .next { s with port := rest, fault := some (s.fault.getD .reservedOp), result := none }

/-! ### What a step runs -/

/-- Between operations a step takes the next host operation off the port and runs the instruction it decodes to. -/
def Obligations.StepRunsPortOperation : Prop :=
  ∀ (s : State) (o : HostOp) (rest : List PortEvent) (i : Instr), s.takes o rest → decode (.host o) = .ok i →
    step s = exec i { s with port := rest }

/-- While `SEQ_MULTIBOOT` runs a step runs the word the micro-step at `UPC` forms, read as the row of that micro-step. -/
def Obligations.StepRunsWireWord : Prop :=
  ∀ (s s1 : State) (w : Word) (i : Instr), s.phase.running = true → s.prepare s.upc = .ok (w, s1) →
    decode (.wire (.micro s.upc) w) = .ok i → step s = exec i s

/-- R111: with no operation running and none issued the block is idle and holds its state (the form, a step that changes
nothing, is the model's choice, log 7). -/
def Obligations.IdleHoldsState : Prop :=
  ∀ s : State, s.phase.running = false → s.port = [] → step s = .next s

/-- R31, R112: the reset event puts every register to its reset value, leaves `FAULT` and the launch inputs, and exchanges
nothing. That it arrives as a port event is the model's choice (log 13). -/
def Obligations.ResetEventClearsRegisters : Prop :=
  ∀ (s : State) (rest : List PortEvent), s.phase.running = false → s.port = .reset :: rest →
    step s = .next
      { s with
        port := rest, result := none, trace := [],
        crcReg := none, crcFin := none, crcSt := .unset, ksgSeed := none, ksgSt := .unset, pp := none, token := none,
        faRaw := none, fa := none, seed0 := none, lenParam := none, fb := none, idx := none, waitCnt := none,
        digest := none, ready := false, phase := .noSession, upc := .h0, err := .ok }

/-- R31: the state of reset holds the values of the table, and no fault. -/
def Obligations.ResetLeavesTableValues : Prop :=
  State.reset.crcReg = none ∧ State.reset.crcFin = none ∧ State.reset.crcSt = .unset ∧ State.reset.ksgSeed = none ∧
  State.reset.ksgSt = .unset ∧ State.reset.pp = none ∧ State.reset.token = none ∧ State.reset.faRaw = none ∧
  State.reset.fa = none ∧ State.reset.seed0 = none ∧ State.reset.lenParam = none ∧ State.reset.fb = none ∧
  State.reset.digest = none ∧ State.reset.idx = none ∧ State.reset.waitCnt = none ∧ State.reset.ready = false ∧
  State.reset.phase = .noSession ∧ State.reset.upc = .h0 ∧ State.reset.err = .ok ∧ State.reset.fault = none ∧
  Config.crcPoly = 0xC37B#32 ∧ Config.ksgMask = 0x43202F2F#32

/-- Every step of every state answers a next state: no operation, no data and no fault stops the machine. -/
def Obligations.StepNeverStops : Prop := ∀ s : State, ∃ s' : State, step s = .next s'

/-! ### The CRC unit -/

/-- R59: the bit step, in the order the rule gives. -/
def Obligations.CrcBitStep : Prop :=
  ∀ reg value : Word,
    crcBit reg value =
      ((if (reg.getLsbD 0 ^^ value.getLsbD 0) = true then (reg >>> 1) ^^^ 0xC37B#32 else reg >>> 1), value >>> 1)

/-- R60: `CRC_INIT` constructs the unit in every state and returns 0; with a nonzero must-be-zero bit it is refused (that a
refused operation is a step with a next state is the reading of log 6, here and below). -/
def Obligations.CrcInitConstructsUnit : Prop :=
  Config.crcPoly = 0x0000C37B#32 ∧
  (∀ (s : State) (finalA finalB : Byte),
    exec (.crcInit finalA finalB) s = .next
      { s with
        crcFin := some (0xFFFF0000#32 ||| finalB.setWidth 32 <<< 8 ||| finalA.setWidth 32),
        crcReg := some 0x0000C387#32, crcSt := .live, result := some 0#32 }) ∧
  ∀ (s : State) (o : HostOp) (rest : List PortEvent), s.takes o rest → o.cmd = 0x1#32 →
    ¬(o.a.toNat < 256 ∧ o.b.toNat < 256) →
    step s = .next { s with port := rest, fault := some (s.fault.getD .reservedOp), result := none }

/-- R61: `CRC_STEP` in LIVE replaces the register by 32 bit steps of the value and returns 0; it faults when UNSET or
DIGESTED, changing nothing else; a nonzero `B` is refused. -/
def Obligations.CrcStepRunsThirtyTwoBitSteps : Prop :=
  (∀ (s : State) (value reg : Word), s.crcSt = .live → s.crcReg = some reg →
    exec (.crcStep value) s = .next
      { s with
        crcReg := some ((fun p : Word × Word => crcBit p.1 p.2)^[32] (reg, value)).1, result := some 0#32 }) ∧
  (∀ (s : State) (value : Word), s.crcSt = .unset →
    exec (.crcStep value) s = .next { s with fault := some (s.fault.getD .crcUnset), result := none }) ∧
  (∀ (s : State) (value : Word), s.crcSt = .digested →
    exec (.crcStep value) s = .next { s with fault := some (s.fault.getD .crcDigested), result := none }) ∧
  ∀ (s : State) (o : HostOp) (rest : List PortEvent), s.takes o rest → o.cmd = 0x2#32 → o.b ≠ 0#32 →
    step s = .next { s with port := rest, fault := some (s.fault.getD .reservedOp), result := none }

/-- R62: `CRC_DIGEST` in LIVE takes exactly one step of the finalize value, is DIGESTED and returns the low 16 bits; it
faults when UNSET or DIGESTED; nonzero operands are refused. -/
def Obligations.CrcDigestStepsFinalizeOnce : Prop :=
  (∀ (s : State) (reg fin : Word), s.crcSt = .live → s.crcReg = some reg → s.crcFin = some fin →
    exec .crcDigest s = .next
      { s with
        crcReg := some ((fun p : Word × Word => crcBit p.1 p.2)^[32] (reg, fin)).1, crcSt := .digested,
        result := some (((fun p : Word × Word => crcBit p.1 p.2)^[32] (reg, fin)).1 &&& 0x0000FFFF#32) }) ∧
  (∀ s : State, s.crcSt = .unset →
    exec .crcDigest s = .next { s with fault := some (s.fault.getD .crcUnset), result := none }) ∧
  (∀ s : State, s.crcSt = .digested →
    exec .crcDigest s = .next { s with fault := some (s.fault.getD .crcDigested), result := none }) ∧
  ∀ (s : State) (o : HostOp) (rest : List PortEvent), s.takes o rest → o.cmd = 0x3#32 →
    ¬(o.a = 0#32 ∧ o.b = 0#32) →
    step s = .next { s with port := rest, fault := some (s.fault.getD .reservedOp), result := none }

/-- R14, R63 (a): a word step keeps bits 31:16 of the register zero. -/
def Obligations.CrcStepKeepsSixteenBits : Prop :=
  ∀ reg value : Word, reg.toNat < 2 ^ 16 → (crcWord reg value).toNat < 2 ^ 16

/-- R63 (c): the word step is linear over GF(2) in the pair (register, value). -/
def Obligations.CrcStepIsLinear : Prop :=
  (∀ r1 r2 v1 v2 : Word, crcWord (r1 ^^^ r2) (v1 ^^^ v2) = crcWord r1 v1 ^^^ crcWord r2 v2) ∧ crcWord 0#32 0#32 = 0#32

/-- R61, corner cases: at a fixed value the word step is one-to-one on the 16-bit registers. -/
def Obligations.CrcStepIsInjective : Prop :=
  ∀ r1 r2 value : Word, r1.toNat < 2 ^ 16 → r2.toNat < 2 ^ 16 → crcWord r1 value = crcWord r2 value → r1 = r2

/-! ### The keystream unit -/

/-- R65: `KSG_INIT` stores any seed in every state and returns 0; a nonzero `B` is refused. -/
def Obligations.KsgInitStoresSeed : Prop :=
  Config.ksgMask = 0x43202F2F#32 ∧
  (∀ (s : State) (seed : Word),
    exec (.ksgInit seed) s = .next { s with ksgSeed := some seed, ksgSt := .live, result := some 0#32 }) ∧
  ∀ (s : State) (o : HostOp) (rest : List PortEvent), s.takes o rest → o.cmd = 0x4#32 → o.b ≠ 0#32 →
    step s = .next { s with port := rest, fault := some (s.fault.getD .reservedOp), result := none }

/-- R66: `KSG_STEP` in LIVE advances the seed modulo 2^32 and answers from the UPDATED seed, for every index (R68); it
faults when UNSET, changing nothing else. -/
def Obligations.KsgStepAnswersFromUpdatedSeed : Prop :=
  (∀ (s : State) (value index seed : Word), s.ksgSt = .live → s.ksgSeed = some seed →
    exec (.ksgStep value index) s = .next
      { s with
        ksgSeed := some (seed * 0x6F646573#32 + 1#32),
        result := some ((seed * 0x6F646573#32 + 1#32) ^^^ value ^^^ (0xFE000000#32 - index) ^^^ 0x43202F2F#32) }) ∧
  ∀ (s : State) (value index : Word), s.ksgSt = .unset →
    exec (.ksgStep value index) s = .next { s with fault := some (s.fault.getD .ksgUnset), result := none }

/-- R67 (a): a second generator with the same seed, stepped with the first's output and the same index, returns the
original value. -/
def Obligations.KsgRoundTripRecoversValue : Prop :=
  ∀ (s1 s2 t1 : State) (value index c : Word), s1.ksgSt = .live → s2.ksgSt = .live → s1.ksgSeed ≠ none →
    s1.ksgSeed = s2.ksgSeed → exec (.ksgStep value index) s1 = .next t1 → t1.result = some c →
    ∃ t2 : State, exec (.ksgStep c index) s2 = .next t2 ∧ t2.result = some value ∧ t2.ksgSeed = t1.ksgSeed

/-- R67 (b): the seed after a list of steps issued on the port depends only on the first seed and their number, never on
the values or indices given. -/
def Obligations.KsgSeedDependsOnCountOnly : Prop :=
  ∀ (ops : List (Word × Word)) (s : State) (seed : Word) (rest : List PortEvent),
    s.phase.running = false → s.ksgSt = .live → s.ksgSeed = some seed →
    s.port = ops.map (fun p => .op ⟨0x5#32, p.1, p.2⟩) ++ rest →
    ∃ t : State, Host.Core.run Sys2Proof.core ops.length s = .next t ∧ t.port = rest ∧
      t.ksgSeed = some ((fun x : Word => x * 0x6F646573#32 + 1#32)^[ops.length] seed)

/-! ### The sequencer's host operations -/

/-- R69, R95: `SEQ_NEW` puts every register of the session back, then opens a session when the image has at least 192 bytes
and is refused with ConfigError when it has fewer; it makes no exchange; a nonzero must-be-zero bit is refused. That
the trace of a new session is empty is the model's choice (its own field: log 14, DESIGN CHOICE). -/
def Obligations.SeqNewOpensOrRefusesSession : Prop :=
  (∀ (s : State) (cfg : Byte), 192 ≤ s.len.toNat →
    exec (.seqNew cfg) s = .next
      { s with
        crcReg := none, crcFin := none, crcSt := .unset, ksgSeed := none, ksgSt := .unset, pp := some (0x81#8 ||| cfg),
        token := none, faRaw := none, fa := none, seed0 := none, lenParam := none, fb := none, idx := some 0#32,
        waitCnt := some 0, digest := none, ready := false, phase := .probing, upc := .h0, err := .ok, trace := [],
        result := some 0#32 }) ∧
  (∀ (s : State) (cfg : Byte), s.len.toNat < 192 →
    exec (.seqNew cfg) s = .next
      { s with
        crcReg := none, crcFin := none, crcSt := .unset, ksgSeed := none, ksgSt := .unset, pp := none,
        token := none, faRaw := none, fa := none, seed0 := none, lenParam := none, fb := none, idx := none,
        waitCnt := none, digest := none, ready := false, phase := .noSession, upc := .h0, err := .configError, trace := [],
        result := some 6#32 }) ∧
  ∀ (s : State) (o : HostOp) (rest : List PortEvent), s.takes o rest → o.cmd = 0x8#32 →
    ¬(o.a.toNat < 256 ∧ o.b = 0#32) →
    step s = .next { s with port := rest, fault := some (s.fault.getD .reservedOp), result := none }

/-- R70: `SEQ_PROBE` in PROBING makes one exchange of 0x6202: `READY` is whether exactly 0x7202 came back; a surfaced failure
clears it and returns 0x40. Elsewhere it faults; nonzero operands are refused. That the wire word W_PROBE has the whole
effect of `SEQ_PROBE` is the model's reading (log 9, DEDUCED); that the exchange stands in the trace, at a position of its
own, is the model's choice (log 14, DESIGN CHOICE). -/
def Obligations.ProbeReadsReadiness : Prop :=
  (∀ (s : State) (i : Instr), s.phase = .probing → (i = .seqProbe ∨ i = .wProbe) →
    exec i s = .next
      (match (s.x16 .probe 0x6202#16).1 with
      | none => { s.heard .probe 0x00006202#32 with ready := false, result := some 0x00000040#32 }
      | some r =>
        { s.heard .probe 0x00006202#32 with
          ready := decide (r = 0x7202#16), result := some (if r = 0x7202#16 then 1#32 else 0#32) })) ∧
  (∀ s : State, s.phase ≠ .probing →
    exec .seqProbe s = .next { s with fault := some (s.fault.getD .wrongPhase), result := none }) ∧
  ∀ (s : State) (o : HostOp) (rest : List PortEvent), s.takes o rest → o.cmd = 0x9#32 →
    ¬(o.a = 0#32 ∧ o.b = 0#32) →
    step s = .next { s with port := rest, fault := some (s.fault.getD .reservedOp), result := none }

/-- R71, in part: `SEQ_MULTIBOOT` in PROBING takes up the micro-program at H0, whatever `READY` is; elsewhere it faults.
That this is a step of its own is the model's choice (log 8). -/
def Obligations.MultibootStartsAtHeader : Prop :=
  (∀ s : State, s.phase = .probing →
    exec .seqMultiboot s = .next { s with upc := .h0, phase := .headerSent, result := none }) ∧
  ∀ s : State, s.phase ≠ .probing →
    exec .seqMultiboot s = .next { s with fault := some (s.fault.getD .wrongPhase), result := none }

/-- R71: in every state of the invariant, when a micro-step ends the session, `SEQ_MULTIBOOT` returns the code of `ERR`, and
until then it has returned nothing new. -/
def Obligations.MultibootReturnsErrorCode : Prop :=
  ∀ s s' : State, s.Inv → s.phase.running = true → step s = .next s' →
    (s'.phase.running = true ∧ s'.result = s.result) ∨
    (s'.phase = .completed ∧ s'.err = .ok ∧ s'.result = some 0#32) ∨
    (s'.phase = .failed ∧ s'.result = some s'.err.code ∧ 1 ≤ s'.err.code.toNat ∧ s'.err.code.toNat ≤ 5)

/-- R72, R26, R23, R25, R17, R20: `STATUS_READ` returns `STATUS` and writes nothing else; the fields stand where the layout
puts them, with the codes of their tables, and every other bit is 0. -/
def Obligations.StatusReadReturnsLayout : Prop :=
  ∀ s : State, ∃ w : Word,
    exec .statusRead s = .next { s with result := some w } ∧
    w.extractLsb' 0 3 =
      (match s.phase with
      | .noSession => 0#3 | .probing => 1#3 | .headerSent => 2#3 | .keysExchanged => 3#3
      | .transferring => 4#3 | .validating => 5#3 | .completed => 6#3 | .failed => 7#3) ∧
    w.getLsbD 3 = s.ready ∧
    w.extractLsb' 4 3 =
      (match s.err with
      | .ok => 0#3 | .failedHandshake => 1#3 | .transmissionError => 2#3 | .invalidChecksum => 3#3
      | .transportError => 4#3 | .checksumTimeout => 5#3 | .configError => 6#3) ∧
    w.getLsbD 7 = false ∧
    w.extractLsb' 8 2 = (match s.crcSt with | .unset => 0#2 | .live => 1#2 | .digested => 2#2) ∧
    w.getLsbD 10 = (match s.ksgSt with | .unset => false | .live => true) ∧
    w.extractLsb' 11 21 = 0#21

/-! ### Exchanges -/

/-- R9, R40: `Xchg32` sends the word and takes the next answer; the 16-bit exchange sends the value with zeros above it and
returns bits 31:16 of the response. Nothing of the block changes (the peer's list and its free draws are the model's form of
the oracle, log 1). -/
def Obligations.ExchangeTakesOneAnswer : Prop :=
  (∀ (s : State) (pos : WirePos) (w : Word) (x : Xfer) (rest : List Xfer), s.peer = x :: rest →
    s.xchg32 pos w = (x, { s with peer := rest, trace := s.trace ++ [⟨pos, w, x⟩] })) ∧
  (∀ (s : State) (pos : WirePos) (w : Word), s.peer = [] →
    s.xchg32 pos w =
      (Config.freeXfer s.draws,
        { s with draws := s.draws + 1, trace := s.trace ++ [⟨pos, w, Config.freeXfer s.draws⟩] })) ∧
  (∀ (s : State) (pos : WirePos) (h : Half) (r : Word), s.nextAnswer = .ok r →
    s.xchg16 pos h = (some (r.extractLsb' 16 16), (s.xchg32 pos (h.setWidth 32)).2)) ∧
  ∀ (s : State) (pos : WirePos) (h : Half), s.nextAnswer = .xfail →
    s.xchg16 pos h = (none, (s.xchg32 pos (h.setWidth 32)).2)

/-- R41: under SURFACE a failed exchange is surfaced, under AS_ZERO it is a response of zero, in both widths; a response is
never changed by the policy. -/
def Obligations.FailurePolicySurfacesOrZeroes : Prop :=
  ∀ (s : State) (pos : WirePos) (h : Half) (w : Word),
    (s.nextAnswer = .xfail → s.failPolicy = .surface → (s.x16 pos h).1 = none ∧ (s.x32 pos w).1 = none) ∧
    (s.nextAnswer = .xfail → s.failPolicy = .asZero →
      (s.x16 pos h).1 = some 0#16 ∧ (s.x32 pos w).1 = some 0#32) ∧
    ∀ r : Word, s.nextAnswer = .ok r →
      (s.x16 pos h).1 = some (r.extractLsb' 16 16) ∧ (s.x32 pos w).1 = some r

/-- R52: the word each micro-step sends. -/
def Obligations.MicroStepsSendTheirWords : Prop :=
  ∀ s : State,
    s.prepare .h0 = .ok (0x00006100#32, s) ∧
    s.prepare .h97 = .ok (0x00006200#32, s) ∧
    s.prepare .k0 = .ok (0x00006202#32, s) ∧
    (∀ pp : Byte, s.pp = some pp →
      s.prepare .k1 = .ok (0x00006300#32 ||| pp.setWidth 32, s) ∧
      s.prepare .k2 = .ok (0x00006300#32 ||| pp.setWidth 32, s)) ∧
    (∀ fa : Byte, s.fa = some fa → s.prepare .k3 = .ok (0x00006400#32 ||| fa.setWidth 32, s)) ∧
    s.prepare .v0 = .ok (0x00000065#32, s) ∧
    s.prepare .v1 = .ok (0x00000066#32, s)

/-- In every running state of the invariant the micro-step at `UPC` forms a word, and that word is the encoding of a
well-formed instruction of its row. -/
def Obligations.RunningSequencerFormsItsWord : Prop :=
  ∀ s : State, s.Inv → s.phase.running = true →
    ∃ (w : Word) (s1 : State) (i : Instr), s.prepare s.upc = .ok (w, s1) ∧ i.wellFormed = true ∧
      encode i = .wire (.micro s.upc) w ∧ step s = exec i s

/-- R54: a wire word is an instruction only where the sequencer is about to send it: elsewhere, outside a running session,
and where another word would be sent, it is refused by a name of its own (log 10). -/
def Obligations.WireWordOnlyWhereItIsSent : Prop :=
  (∀ (i : Instr) (u : MicroStep) (w : Word) (s : State), encode i = .wire (.micro u) w →
    (s.phase.running = false ∨ s.upc ≠ u ∨ ∃ (w' : Word) (s1 : State), s.prepare u = .ok (w', s1) ∧ w' ≠ w) →
    ∃ m : String, exec i s = .refused (.notSent m)) ∧
  ∀ s : State, s.phase ≠ .probing → exec .wProbe s = .refused (.notSent "W_PROBE")

/-! ### The micro-steps -/

/-- R74, R76, R77, R85: H0, H97, K0 and V1 send their fixed word, discard the response and go on; a surfaced failure raises
TransportError (R73, R97). -/
def Obligations.FixedWordMicroSteps : Prop :=
  (∀ s : State, s.phase.running = true → s.upc = .h0 →
    exec .wHdrStart s = .next
      (match (s.x16 (.micro .h0) 0x6100#16).1 with
      | none =>
        { s.heard (.micro .h0) 0x00006100#32 with phase := .failed, err := .transportError, result := some 4#32 }
      | some _ => { s.heard (.micro .h0) 0x00006100#32 with upc := .hdr 0, phase := .headerSent })) ∧
  (∀ s : State, s.phase.running = true → s.upc = .h97 →
    exec .wHdrEnd s = .next
      (match (s.x16 (.micro .h97) 0x6200#16).1 with
      | none =>
        { s.heard (.micro .h97) 0x00006200#32 with phase := .failed, err := .transportError, result := some 4#32 }
      | some _ => { s.heard (.micro .h97) 0x00006200#32 with upc := .k0, phase := .keysExchanged })) ∧
  (∀ s : State, s.phase.running = true → s.upc = .k0 →
    exec .wKeyProbe s = .next
      (match (s.x16 (.micro .k0) 0x6202#16).1 with
      | none =>
        { s.heard (.micro .k0) 0x00006202#32 with phase := .failed, err := .transportError, result := some 4#32 }
      | some _ => { s.heard (.micro .k0) 0x00006202#32 with upc := .k1, phase := .keysExchanged })) ∧
  ∀ s : State, s.phase.running = true → s.upc = .v1 →
    exec .wCsumStart s = .next
      (match (s.x16 (.micro .v1) 0x0066#16).1 with
      | none =>
        { s.heard (.micro .v1) 0x00000066#32 with phase := .failed, err := .transportError, result := some 4#32 }
      | some _ => { s.heard (.micro .v1) 0x00000066#32 with upc := .v2, phase := .validating })

/-- R34, R75: H(k+1) sends `IMG[2k] | IMG[2k+1] << 8`, discards the response and goes on to the next header word, or to H97
after the last; a surfaced failure raises TransportError. -/
def Obligations.HeaderWordsSentInOrder : Prop :=
  ∀ (s : State) (k : Fin 96) (h : Half), s.phase.running = true → s.upc = .hdr k → 2 * k.val + 1 < s.len.toNat →
    h = (s.img.read (2 * k.val)).setWidth 16 ||| (s.img.read (2 * k.val + 1)).setWidth 16 <<< 8 →
    exec (.wHdrWord k h) s = .next
      (match (s.x16 (.micro (.hdr k)) h).1 with
      | none =>
        { s.heard (.micro (.hdr k)) (h.setWidth 32) with
          phase := .failed, err := .transportError, result := some 4#32 }
      | some _ =>
        { s.heard (.micro (.hdr k)) (h.setWidth 32) with
          upc := (if hk : k.val + 1 < 96 then .hdr ⟨k.val + 1, hk⟩ else .h97), phase := .headerSent })

/-- R78, R80: K1 sends `0x6300 | PP` and K3 sends `0x6400 | FA`; the response is discarded; a surfaced failure raises
TransportError. -/
def Obligations.ParameterWordMicroSteps : Prop :=
  (∀ (s : State) (pp : Byte), s.phase.running = true → s.upc = .k1 → s.pp = some pp →
    exec (.wKeyPrime pp) s = .next
      (match (s.x16 (.micro .k1) (0x6300#16 ||| pp.setWidth 16)).1 with
      | none =>
        { s.heard (.micro .k1) (0x00006300#32 ||| pp.setWidth 32) with
          phase := .failed, err := .transportError, result := some 4#32 }
      | some _ =>
        { s.heard (.micro .k1) (0x00006300#32 ||| pp.setWidth 32) with upc := .k2, phase := .keysExchanged })) ∧
  ∀ (s : State) (fa : Byte), s.phase.running = true → s.upc = .k3 → s.fa = some fa →
    exec (.wCrcA fa) s = .next
      (match (s.x16 (.micro .k3) (0x6400#16 ||| fa.setWidth 16)).1 with
      | none =>
        { s.heard (.micro .k3) (0x00006400#32 ||| fa.setWidth 32) with
          phase := .failed, err := .transportError, result := some 4#32 }
      | some _ =>
        { s.heard (.micro .k3) (0x00006400#32 ||| fa.setWidth 32) with upc := .k4, phase := .keysExchanged })

/-- R79, R90: K2 keeps the token, fails the handshake unless its high byte is 0x73, and else derives finalA, the seed from
the unadjusted finalA, and the adjusted finalA modulo 256. -/
def Obligations.KeyFetchChecksToken : Prop :=
  ∀ (s : State) (pp : Byte), s.phase.running = true → s.upc = .k2 → s.pp = some pp →
    exec (.wKeyFetch pp) s = .next
      (match (s.x16 (.micro .k2) (0x6300#16 ||| pp.setWidth 16)).1 with
      | none =>
        { s.heard (.micro .k2) (0x00006300#32 ||| pp.setWidth 32) with
          phase := .failed, err := .transportError, result := some 4#32 }
      | some t =>
        if t.extractLsb' 8 8 = 0x73#8 then
          { s.heard (.micro .k2) (0x00006300#32 ||| pp.setWidth 32) with
            token := some t, faRaw := some (t.extractLsb' 0 8),
            seed0 := some (0xFFFF0000#32 ||| (t.extractLsb' 0 8).setWidth 32 <<< 8 ||| pp.setWidth 32),
            fa := some (t.extractLsb' 0 8 + 0x0F#8), upc := .k3, phase := .keysExchanged }
        else
          { s.heard (.micro .k2) (0x00006300#32 ||| pp.setWidth 32) with
            token := some t, phase := .failed, err := .failedHandshake, result := some 1#32 })

/-- R81: K4 sends `(N - 0x34) mod 2^16`, takes finalB from the response's low byte, and constructs the CRC from (FA, FB) and
the keystream generator from SEED0; a surfaced failure leaves LENPARAM written and the units as they were. -/
def Obligations.LengthExchangeConstructsUnits : Prop :=
  ∀ (s : State) (fa : Byte) (seed : Word) (h : Half), s.phase.running = true → s.upc = .k4 → s.fa = some fa →
    s.seed0 = some seed → h = BitVec.ofInt 16 ((s.payloadWords : Int) - 0x34) →
    exec (.wLen h) s = .next
      (match (s.x16 (.micro .k4) h).1 with
      | none =>
        { s.heard (.micro .k4) (h.setWidth 32) with
          lenParam := some h, phase := .failed, err := .transportError, result := some 4#32 }
      | some r =>
        { s.heard (.micro .k4) (h.setWidth 32) with
          lenParam := some h, fb := some (r.extractLsb' 0 8),
          crcFin := some (0xFFFF0000#32 ||| (r.extractLsb' 0 8).setWidth 32 <<< 8 ||| fa.setWidth 32),
          crcReg := some 0x0000C387#32, crcSt := .live, ksgSeed := some seed, ksgSt := .live,
          upc := (if 0 < s.payloadWords then .t 0 else .v0),
          phase := (if 0 < s.payloadWords then .transferring else .validating) })

/-- R35, R82, R83, R118: T(i) steps the CRC with the plaintext word and the keystream before the exchange, sends the
ciphertext, and goes on when bits 31:16 of the response are the low 16 bits of `WI`; else, and on a surfaced failure, both
units stay advanced and `I` stays. -/
def Obligations.PayloadWordSteppedThenSent : Prop :=
  ∀ (s : State) (i : Nat) (reg seed w c : Word), s.phase.running = true → s.upc = .t i → s.crcSt = .live →
    s.crcReg = some reg → s.ksgSt = .live → s.ksgSeed = some seed → 192 + 4 * i + 3 < s.len.toNat →
    w = (s.img.read (192 + 4 * i)).setWidth 32 ||| (s.img.read (192 + 4 * i + 1)).setWidth 32 <<< 8 |||
      (s.img.read (192 + 4 * i + 2)).setWidth 32 <<< 16 ||| (s.img.read (192 + 4 * i + 3)).setWidth 32 <<< 24 →
    c = (seed * 0x6F646573#32 + 1#32) ^^^ w ^^^ (0xFE000000#32 - BitVec.ofNat 32 (4 * i + 192)) ^^^ 0x43202F2F#32 →
    exec (.wPayload i c) s = .next
      (match (s.x32 (.micro (.t i)) c).1 with
      | none =>
        { s.heard (.micro (.t i)) c with
          crcReg := some (crcWord reg w), ksgSeed := some (seed * 0x6F646573#32 + 1#32),
          phase := .failed, err := .transportError, result := some 4#32 }
      | some r =>
        if r.extractLsb' 16 16 = BitVec.ofNat 16 (4 * i + 192) then
          { s.heard (.micro (.t i)) c with
            crcReg := some (crcWord reg w), ksgSeed := some (seed * 0x6F646573#32 + 1#32),
            idx := some (BitVec.ofNat 32 (i + 1)),
            upc := (if i + 1 < s.payloadWords then .t (i + 1) else .v0),
            phase := (if i + 1 < s.payloadWords then .transferring else .validating) }
        else
          { s.heard (.micro (.t i)) c with
            crcReg := some (crcWord reg w), ksgSeed := some (seed * 0x6F646573#32 + 1#32),
            phase := .failed, err := .transmissionError, result := some 2#32 })

/-- R84, R94, R98: V0 counts the exchange, exits on exactly 0x0075, and else raises ChecksumTimeout when the count has
reached a bounded `WAIT_LIMIT`, or waits again. -/
def Obligations.WaitExitsTimesOutOrRepeats : Prop :=
  ∀ (s : State) (n : Nat) (atLimit : Bool), s.phase.running = true → s.upc = .v0 → s.waitCnt = some n →
    (atLimit = true ↔ ∃ m : Nat, s.waitLimit = .bounded m ∧ m ≤ n + 1) →
    exec .wWait s = .next
      (match (s.x16 (.micro .v0) 0x0065#16).1 with
      | none =>
        { s.heard (.micro .v0) 0x00000065#32 with phase := .failed, err := .transportError, result := some 4#32 }
      | some r =>
        if r = 0x0075#16 then
          { s.heard (.micro .v0) 0x00000065#32 with waitCnt := some (n + 1), upc := .v1, phase := .validating }
        else if atLimit = true then
          { s.heard (.micro .v0) 0x00000065#32 with
            waitCnt := some (n + 1), phase := .failed, err := .checksumTimeout, result := some 5#32 }
        else { s.heard (.micro .v0) 0x00000065#32 with waitCnt := some (n + 1), upc := .v0, phase := .validating })

/-- R86, R92: V2 takes the digest before its exchange, sends it, and completes the session when the response is the digest;
else it raises InvalidChecksum, and on a surfaced failure TransportError, with the digest and DIGESTED kept. -/
def Obligations.DigestSentAndEchoed : Prop :=
  ∀ (s : State) (reg fin : Word) (d : Half), s.phase.running = true → s.upc = .v2 → s.crcSt = .live →
    s.crcReg = some reg → s.crcFin = some fin → d = (crcWord reg fin).extractLsb' 0 16 →
    exec (.wCsumValue d) s = .next
      (match (s.x16 (.micro .v2) d).1 with
      | none =>
        { s.heard (.micro .v2) (d.setWidth 32) with
          crcReg := some (crcWord reg fin), crcSt := .digested, digest := some d,
          phase := .failed, err := .transportError, result := some 4#32 }
      | some r =>
        if r = d then
          { s.heard (.micro .v2) (d.setWidth 32) with
            crcReg := some (crcWord reg fin), crcSt := .digested, digest := some d,
            err := .ok, upc := .done, phase := .completed, result := some 0#32 }
        else
          { s.heard (.micro .v2) (d.setWidth 32) with
            crcReg := some (crcWord reg fin), crcSt := .digested, digest := some d,
            phase := .failed, err := .invalidChecksum, result := some 3#32 })

/-- R73, R2, R116: in every running state of the invariant a step makes exactly one exchange, at the micro-step of `UPC`,
and its answer is the one taken. -/
def Obligations.EveryMicroStepExchangesOnce : Prop :=
  ∀ s s' : State, s.Inv → s.phase.running = true → step s = .next s' →
    ∃ w : Word, s'.trace = s.trace ++ [⟨.micro s.upc, w, s.nextAnswer⟩] ∧
      s'.peer = s.peer.tail ∧ s'.draws = (if s.peer = [] then s.draws + 1 else s.draws)

/-- R93, R97: in every running state of the invariant, an exchange that fails under SURFACE ends the session with
TransportError at the micro-step that made it. -/
def Obligations.SurfacedFailureEndsSession : Prop :=
  ∀ s : State, s.Inv → s.phase.running = true → s.nextAnswer = .xfail → s.failPolicy = .surface →
    ∃ s' : State, step s = .next s' ∧ s'.phase = .failed ∧ s'.err = .transportError ∧ s'.upc = s.upc ∧
      s'.result = some 4#32

/-! ### The image -/

/-- R33: the derived lengths of an image a session accepts. -/
def Obligations.ImageGeometry : Prop :=
  ∀ s : State, 192 ≤ s.len.toNat →
    s.alignedLen % 16 = 0 ∧ s.alignedLen ≤ s.len.toNat ∧ s.len.toNat < s.alignedLen + 16 ∧ 192 ≤ s.alignedLen ∧
    4 * s.payloadWords = s.alignedLen - 192 ∧ (s.alignedLen - 192) % 16 = 0

/-- R8: an image read gives the byte below `LEN` and is a model fault from `LEN` on; wider reads are little-endian; no step
writes the image. -/
def Obligations.ImageReadsLittleEndian : Prop :=
  (∀ s s' : State, step s = .next s' → s'.img = s.img) ∧
  ∀ (s : State) (a : Nat),
    (a < s.len.toNat → s.imgRead8 a = .ok (s.img.read a)) ∧
    (s.len.toNat ≤ a → s.imgRead8 a = .error .imgBounds) ∧
    (a + 1 < s.len.toNat →
      ∃ h : Half, s.memRead2 a = .ok h ∧ h.extractLsb' 0 8 = s.img.read a ∧ h.extractLsb' 8 8 = s.img.read (a + 1)) ∧
    (a + 3 < s.len.toNat →
      ∃ w : Word, s.memRead4 a = .ok w ∧ w.extractLsb' 0 8 = s.img.read a ∧ w.extractLsb' 8 8 = s.img.read (a + 1) ∧
        w.extractLsb' 16 8 = s.img.read (a + 2) ∧ w.extractLsb' 24 8 = s.img.read (a + 3)) ∧
    (s.len.toNat ≤ a + 1 → s.memRead2 a = .error .imgBounds) ∧
    (s.len.toNat ≤ a + 3 → s.memRead4 a = .error .imgBounds)

/-- R37, R121: no step changes the image, its length or the open parameters. -/
def Obligations.LaunchInputsConstant : Prop :=
  ∀ s s' : State, step s = .next s' → s.sameLaunch s'

/-- R36: the tail `IMG[AL .. LEN-1]` is never read: two images that agree below `AL` give the same step. -/
def Obligations.ImageTailNeverRead : Prop :=
  ∀ (s s' : State) (m : Memory), s.Inv → (∀ a, a < s.alignedLen → m.read a = s.img.read a) →
    step s = .next s' → step { s with img := m } = .next { s' with img := m }

/-- R53, R40: in a running state of the invariant bits 15:0 of a response are never read: answers with the same upper half
give the same step but for the trace. -/
def Obligations.ResponseLowHalfUnread : Prop :=
  ∀ (s s1 s2 : State) (r1 r2 : Word) (rest : List Xfer), s.Inv → s.phase.running = true →
    r1.extractLsb' 16 16 = r2.extractLsb' 16 16 →
    step { s with peer := .ok r1 :: rest } = .next s1 → step { s with peer := .ok r2 :: rest } = .next s2 →
    { s1 with trace := [] } = { s2 with trace := [] }

/-! ### Faults -/

/-- R102: a step from a state of the invariant never records `F_NO_VALUE` or `F_IMG_BOUNDS`. -/
def Obligations.ModelSlipsUnreachable : Prop :=
  ∀ s s' : State, s.Inv → s.fault = none → step s = .next s' →
    s'.fault ≠ some .noValue ∧ s'.fault ≠ some .imgBounds

/-- R104: a step that records a model fault, from a state of the invariant, changes nothing else of the block and returns no
result; the first fault recorded stands for good, whatever happens next. -/
def Obligations.ModelFaultRecordedForGood : Prop :=
  (∀ (s s' : State) (f : Fault), s.Inv → s.fault = none → step s = .next s' → s'.fault = some f →
    ∃ rest : List PortEvent, s' = { s with port := rest, fault := some f, result := none }) ∧
  ∀ (s s' : State) (f : Fault), s.fault = some f → step s = .next s' → s'.fault = some f

/-- R7: a rule that reads a register holding `NONE` is a model fault. (No run reaches it, R102.) -/
def Obligations.ReadingNoValueFaults : Prop :=
  (∀ (s : State) (value : Word), s.crcSt = .live → s.crcReg = none →
    exec (.crcStep value) s = .next { s with fault := some (s.fault.getD .noValue), result := none }) ∧
  (∀ (s : State) (value index : Word), s.ksgSt = .live → s.ksgSeed = none →
    exec (.ksgStep value index) s = .next { s with fault := some (s.fault.getD .noValue), result := none }) ∧
  ∀ s : State, s.phase.running = true → s.upc = .k1 → s.pp = none →
    step s = .next { s with fault := some (s.fault.getD .noValue), result := none }

/-! ### The whole machine -/

/-- The state of reset meets the invariant. -/
def Obligations.ResetMeetsInvariant : Prop := State.reset.Inv

/-- Every step keeps the invariant: unit lifecycles and register values agree (R14, R16 to R18), the phase is that of the
micro-step (R23 to R25), and at every micro-step the registers its rule reads hold the values the session gave them, the
units having consumed exactly the payload words already sent, in order (R58, R64, R119, R120). -/
def Obligations.EveryStepKeepsInvariant : Prop := ∀ s s' : State, s.Inv → step s = .next s' → s'.Inv

/-- R87, R23: a running session moves only forward through the phases, never back. -/
def Obligations.PhaseMovesForward : Prop :=
  ∀ s s' : State, s.Inv → s.phase.running = true → step s = .next s' →
    s.phase.code.toNat ≤ s'.phase.code.toNat ∧ (s'.phase.running = true → s.exchangesBefore ≤ s'.exchangesBefore)

/-- R100: a completed or failed session stays as it ended until `SEQ_NEW` or reset. -/
def Obligations.EndedSessionStaysEnded : Prop :=
  ∀ s s' : State, (s.phase = .completed ∨ s.phase = .failed) → step s = .next s' →
    (∀ rest, s.port ≠ .reset :: rest) → (∀ o rest, s.port = .op o :: rest → o.cmd ≠ 0x8#32) →
    s'.phase = s.phase ∧ s'.err = s.err ∧ s'.upc = s.upc ∧ s'.trace = s.trace

/-- R122, R47: while an operation runs the port is not read. -/
def Obligations.PortWaitsWhileRunning : Prop :=
  ∀ s s' : State, s.phase.running = true → step s = .next s' → s'.port = s.port

/-- R88: every step keeps the count of exchanges that the position and `WAIT_CNT` give. -/
def Obligations.ExchangeCountKept : Prop :=
  ∀ s s' : State, s.Inv → s.countOk → step s = .next s' → s'.countOk

/-- R88: what the count says at the end: a completed session made `98 + 5 + N + WAIT_CNT + 2` exchanges, a failed handshake
101, a transmission error at word `i` `103 + i + 1`. -/
def Obligations.SessionExchangeTotals : Prop :=
  (∀ (s : State) (n : Nat), s.Inv → s.countOk → s.phase = .completed → s.waitCnt = some n →
    s.microExchanges = 98 + 5 + s.payloadWords + n + 2) ∧
  (∀ s : State, s.countOk → s.phase = .failed → s.err = .failedHandshake → s.upc = .k2 → s.microExchanges = 101) ∧
  ∀ (s : State) (i : Nat), s.countOk → s.phase = .failed → s.err = .transmissionError → s.upc = .t i →
    s.microExchanges = 103 + i + 1

/-- R123: with a bounded `WAIT_LIMIT` every running session ends, whatever the peer answers, within the exchanges R88
counts. -/
def Obligations.BoundedSessionEnds : Prop :=
  ∀ (s : State) (n : Nat), s.Inv → s.phase.running = true → s.waitLimit = .bounded n →
    ∃ (k : Nat) (t : State), k ≤ 105 + s.payloadWords + n ∧ Host.Core.run Sys2Proof.core k s = .next t ∧ t.ended

/-- R115, R71: with an image a session accepts and a peer that plays its part, `SEQ_MULTIBOOT` completes with result 0 in
one step for taking it up and `98 + 5 + N + 1 + 2` exchanges. -/
def Obligations.HonestSessionCompletes : Prop :=
  ∀ (s : State) (raw finalB : Byte) (rest : List PortEvent) (more : List Xfer), s.Inv → s.phase = .probing →
    s.port = .op ⟨0xA#32, 0#32, 0#32⟩ :: rest →
    s.peer = s.honestAnswers raw finalB ++ more →
    ∃ t : State, Host.Core.run Sys2Proof.core (107 + s.payloadWords) s = .next t ∧ t.phase = .completed ∧
      t.upc = .done ∧ t.result = some 0#32 ∧ t.digest = some (s.sessionDigest raw finalB) ∧ t.peer = more ∧
      t.port = rest
end

