-- ==== Sys2Proof/Laws/State.lean ====
section
/-! SUPPORT. What each named update of the state does to each field, by definition: no later proof unfolds an update. -/

namespace Sys2Proof.Machine

variable (s : State)


/-! ### `State.returns` -/

@[simp] theorem State.returns_crcReg (v : Word) : (s.returns v).crcReg = s.crcReg := rfl
@[simp] theorem State.returns_crcFin (v : Word) : (s.returns v).crcFin = s.crcFin := rfl
@[simp] theorem State.returns_crcSt (v : Word) : (s.returns v).crcSt = s.crcSt := rfl
@[simp] theorem State.returns_ksgSeed (v : Word) : (s.returns v).ksgSeed = s.ksgSeed := rfl
@[simp] theorem State.returns_ksgSt (v : Word) : (s.returns v).ksgSt = s.ksgSt := rfl
@[simp] theorem State.returns_pp (v : Word) : (s.returns v).pp = s.pp := rfl
@[simp] theorem State.returns_token (v : Word) : (s.returns v).token = s.token := rfl
@[simp] theorem State.returns_faRaw (v : Word) : (s.returns v).faRaw = s.faRaw := rfl
@[simp] theorem State.returns_fa (v : Word) : (s.returns v).fa = s.fa := rfl
@[simp] theorem State.returns_seed0 (v : Word) : (s.returns v).seed0 = s.seed0 := rfl
@[simp] theorem State.returns_lenParam (v : Word) : (s.returns v).lenParam = s.lenParam := rfl
@[simp] theorem State.returns_fb (v : Word) : (s.returns v).fb = s.fb := rfl
@[simp] theorem State.returns_idx (v : Word) : (s.returns v).idx = s.idx := rfl
@[simp] theorem State.returns_waitCnt (v : Word) : (s.returns v).waitCnt = s.waitCnt := rfl
@[simp] theorem State.returns_digest (v : Word) : (s.returns v).digest = s.digest := rfl
@[simp] theorem State.returns_ready (v : Word) : (s.returns v).ready = s.ready := rfl
@[simp] theorem State.returns_phase (v : Word) : (s.returns v).phase = s.phase := rfl
@[simp] theorem State.returns_upc (v : Word) : (s.returns v).upc = s.upc := rfl
@[simp] theorem State.returns_err (v : Word) : (s.returns v).err = s.err := rfl
@[simp] theorem State.returns_fault (v : Word) : (s.returns v).fault = s.fault := rfl
@[simp] theorem State.returns_len (v : Word) : (s.returns v).len = s.len := rfl
@[simp] theorem State.returns_img (v : Word) : (s.returns v).img = s.img := rfl
@[simp] theorem State.returns_waitLimit (v : Word) : (s.returns v).waitLimit = s.waitLimit := rfl
@[simp] theorem State.returns_failPolicy (v : Word) : (s.returns v).failPolicy = s.failPolicy := rfl
@[simp] theorem State.returns_port (v : Word) : (s.returns v).port = s.port := rfl
@[simp] theorem State.returns_result (v : Word) : (s.returns v).result = some v := rfl
@[simp] theorem State.returns_peer (v : Word) : (s.returns v).peer = s.peer := rfl
@[simp] theorem State.returns_draws (v : Word) : (s.returns v).draws = s.draws := rfl
@[simp] theorem State.returns_trace (v : Word) : (s.returns v).trace = s.trace := rfl

/-! ### `State.modelFault` -/

@[simp] theorem State.modelFault_crcReg (f : Fault) : (s.modelFault f).crcReg = s.crcReg := rfl
@[simp] theorem State.modelFault_crcFin (f : Fault) : (s.modelFault f).crcFin = s.crcFin := rfl
@[simp] theorem State.modelFault_crcSt (f : Fault) : (s.modelFault f).crcSt = s.crcSt := rfl
@[simp] theorem State.modelFault_ksgSeed (f : Fault) : (s.modelFault f).ksgSeed = s.ksgSeed := rfl
@[simp] theorem State.modelFault_ksgSt (f : Fault) : (s.modelFault f).ksgSt = s.ksgSt := rfl
@[simp] theorem State.modelFault_pp (f : Fault) : (s.modelFault f).pp = s.pp := rfl
@[simp] theorem State.modelFault_token (f : Fault) : (s.modelFault f).token = s.token := rfl
@[simp] theorem State.modelFault_faRaw (f : Fault) : (s.modelFault f).faRaw = s.faRaw := rfl
@[simp] theorem State.modelFault_fa (f : Fault) : (s.modelFault f).fa = s.fa := rfl
@[simp] theorem State.modelFault_seed0 (f : Fault) : (s.modelFault f).seed0 = s.seed0 := rfl
@[simp] theorem State.modelFault_lenParam (f : Fault) : (s.modelFault f).lenParam = s.lenParam := rfl
@[simp] theorem State.modelFault_fb (f : Fault) : (s.modelFault f).fb = s.fb := rfl
@[simp] theorem State.modelFault_idx (f : Fault) : (s.modelFault f).idx = s.idx := rfl
@[simp] theorem State.modelFault_waitCnt (f : Fault) : (s.modelFault f).waitCnt = s.waitCnt := rfl
@[simp] theorem State.modelFault_digest (f : Fault) : (s.modelFault f).digest = s.digest := rfl
@[simp] theorem State.modelFault_ready (f : Fault) : (s.modelFault f).ready = s.ready := rfl
@[simp] theorem State.modelFault_phase (f : Fault) : (s.modelFault f).phase = s.phase := rfl
@[simp] theorem State.modelFault_upc (f : Fault) : (s.modelFault f).upc = s.upc := rfl
@[simp] theorem State.modelFault_err (f : Fault) : (s.modelFault f).err = s.err := rfl
@[simp] theorem State.modelFault_fault (f : Fault) : (s.modelFault f).fault = some (s.fault.getD f) := rfl
@[simp] theorem State.modelFault_len (f : Fault) : (s.modelFault f).len = s.len := rfl
@[simp] theorem State.modelFault_img (f : Fault) : (s.modelFault f).img = s.img := rfl
@[simp] theorem State.modelFault_waitLimit (f : Fault) : (s.modelFault f).waitLimit = s.waitLimit := rfl
@[simp] theorem State.modelFault_failPolicy (f : Fault) : (s.modelFault f).failPolicy = s.failPolicy := rfl
@[simp] theorem State.modelFault_port (f : Fault) : (s.modelFault f).port = s.port := rfl
@[simp] theorem State.modelFault_result (f : Fault) : (s.modelFault f).result = none := rfl
@[simp] theorem State.modelFault_peer (f : Fault) : (s.modelFault f).peer = s.peer := rfl
@[simp] theorem State.modelFault_draws (f : Fault) : (s.modelFault f).draws = s.draws := rfl
@[simp] theorem State.modelFault_trace (f : Fault) : (s.modelFault f).trace = s.trace := rfl

/-! ### `State.raise` -/

@[simp] theorem State.raise_crcReg (k : ErrKind) : (s.raise k).crcReg = s.crcReg := rfl
@[simp] theorem State.raise_crcFin (k : ErrKind) : (s.raise k).crcFin = s.crcFin := rfl
@[simp] theorem State.raise_crcSt (k : ErrKind) : (s.raise k).crcSt = s.crcSt := rfl
@[simp] theorem State.raise_ksgSeed (k : ErrKind) : (s.raise k).ksgSeed = s.ksgSeed := rfl
@[simp] theorem State.raise_ksgSt (k : ErrKind) : (s.raise k).ksgSt = s.ksgSt := rfl
@[simp] theorem State.raise_pp (k : ErrKind) : (s.raise k).pp = s.pp := rfl
@[simp] theorem State.raise_token (k : ErrKind) : (s.raise k).token = s.token := rfl
@[simp] theorem State.raise_faRaw (k : ErrKind) : (s.raise k).faRaw = s.faRaw := rfl
@[simp] theorem State.raise_fa (k : ErrKind) : (s.raise k).fa = s.fa := rfl
@[simp] theorem State.raise_seed0 (k : ErrKind) : (s.raise k).seed0 = s.seed0 := rfl
@[simp] theorem State.raise_lenParam (k : ErrKind) : (s.raise k).lenParam = s.lenParam := rfl
@[simp] theorem State.raise_fb (k : ErrKind) : (s.raise k).fb = s.fb := rfl
@[simp] theorem State.raise_idx (k : ErrKind) : (s.raise k).idx = s.idx := rfl
@[simp] theorem State.raise_waitCnt (k : ErrKind) : (s.raise k).waitCnt = s.waitCnt := rfl
@[simp] theorem State.raise_digest (k : ErrKind) : (s.raise k).digest = s.digest := rfl
@[simp] theorem State.raise_ready (k : ErrKind) : (s.raise k).ready = s.ready := rfl
@[simp] theorem State.raise_phase (k : ErrKind) : (s.raise k).phase = .failed := rfl
@[simp] theorem State.raise_upc (k : ErrKind) : (s.raise k).upc = s.upc := rfl
@[simp] theorem State.raise_err (k : ErrKind) : (s.raise k).err = k := rfl
@[simp] theorem State.raise_fault (k : ErrKind) : (s.raise k).fault = s.fault := rfl
@[simp] theorem State.raise_len (k : ErrKind) : (s.raise k).len = s.len := rfl
@[simp] theorem State.raise_img (k : ErrKind) : (s.raise k).img = s.img := rfl
@[simp] theorem State.raise_waitLimit (k : ErrKind) : (s.raise k).waitLimit = s.waitLimit := rfl
@[simp] theorem State.raise_failPolicy (k : ErrKind) : (s.raise k).failPolicy = s.failPolicy := rfl
@[simp] theorem State.raise_port (k : ErrKind) : (s.raise k).port = s.port := rfl
@[simp] theorem State.raise_result (k : ErrKind) : (s.raise k).result = some k.code := rfl
@[simp] theorem State.raise_peer (k : ErrKind) : (s.raise k).peer = s.peer := rfl
@[simp] theorem State.raise_draws (k : ErrKind) : (s.raise k).draws = s.draws := rfl
@[simp] theorem State.raise_trace (k : ErrKind) : (s.raise k).trace = s.trace := rfl

/-! ### `State.advance` -/

@[simp] theorem State.advance_crcReg (u : MicroStep) : (s.advance u).crcReg = s.crcReg := rfl
@[simp] theorem State.advance_crcFin (u : MicroStep) : (s.advance u).crcFin = s.crcFin := rfl
@[simp] theorem State.advance_crcSt (u : MicroStep) : (s.advance u).crcSt = s.crcSt := rfl
@[simp] theorem State.advance_ksgSeed (u : MicroStep) : (s.advance u).ksgSeed = s.ksgSeed := rfl
@[simp] theorem State.advance_ksgSt (u : MicroStep) : (s.advance u).ksgSt = s.ksgSt := rfl
@[simp] theorem State.advance_pp (u : MicroStep) : (s.advance u).pp = s.pp := rfl
@[simp] theorem State.advance_token (u : MicroStep) : (s.advance u).token = s.token := rfl
@[simp] theorem State.advance_faRaw (u : MicroStep) : (s.advance u).faRaw = s.faRaw := rfl
@[simp] theorem State.advance_fa (u : MicroStep) : (s.advance u).fa = s.fa := rfl
@[simp] theorem State.advance_seed0 (u : MicroStep) : (s.advance u).seed0 = s.seed0 := rfl
@[simp] theorem State.advance_lenParam (u : MicroStep) : (s.advance u).lenParam = s.lenParam := rfl
@[simp] theorem State.advance_fb (u : MicroStep) : (s.advance u).fb = s.fb := rfl
@[simp] theorem State.advance_idx (u : MicroStep) : (s.advance u).idx = s.idx := rfl
@[simp] theorem State.advance_waitCnt (u : MicroStep) : (s.advance u).waitCnt = s.waitCnt := rfl
@[simp] theorem State.advance_digest (u : MicroStep) : (s.advance u).digest = s.digest := rfl
@[simp] theorem State.advance_ready (u : MicroStep) : (s.advance u).ready = s.ready := rfl
@[simp] theorem State.advance_phase (u : MicroStep) : (s.advance u).phase = phaseOf u := rfl
@[simp] theorem State.advance_upc (u : MicroStep) : (s.advance u).upc = u := rfl
@[simp] theorem State.advance_err (u : MicroStep) : (s.advance u).err = s.err := rfl
@[simp] theorem State.advance_fault (u : MicroStep) : (s.advance u).fault = s.fault := rfl
@[simp] theorem State.advance_len (u : MicroStep) : (s.advance u).len = s.len := rfl
@[simp] theorem State.advance_img (u : MicroStep) : (s.advance u).img = s.img := rfl
@[simp] theorem State.advance_waitLimit (u : MicroStep) : (s.advance u).waitLimit = s.waitLimit := rfl
@[simp] theorem State.advance_failPolicy (u : MicroStep) : (s.advance u).failPolicy = s.failPolicy := rfl
@[simp] theorem State.advance_port (u : MicroStep) : (s.advance u).port = s.port := rfl
@[simp] theorem State.advance_result (u : MicroStep) : (s.advance u).result = s.result := rfl
@[simp] theorem State.advance_peer (u : MicroStep) : (s.advance u).peer = s.peer := rfl
@[simp] theorem State.advance_draws (u : MicroStep) : (s.advance u).draws = s.draws := rfl
@[simp] theorem State.advance_trace (u : MicroStep) : (s.advance u).trace = s.trace := rfl

/-! ### `State.record` -/

@[simp] theorem State.record_crcReg (e : WireEvent) : (s.record e).crcReg = s.crcReg := rfl
@[simp] theorem State.record_crcFin (e : WireEvent) : (s.record e).crcFin = s.crcFin := rfl
@[simp] theorem State.record_crcSt (e : WireEvent) : (s.record e).crcSt = s.crcSt := rfl
@[simp] theorem State.record_ksgSeed (e : WireEvent) : (s.record e).ksgSeed = s.ksgSeed := rfl
@[simp] theorem State.record_ksgSt (e : WireEvent) : (s.record e).ksgSt = s.ksgSt := rfl
@[simp] theorem State.record_pp (e : WireEvent) : (s.record e).pp = s.pp := rfl
@[simp] theorem State.record_token (e : WireEvent) : (s.record e).token = s.token := rfl
@[simp] theorem State.record_faRaw (e : WireEvent) : (s.record e).faRaw = s.faRaw := rfl
@[simp] theorem State.record_fa (e : WireEvent) : (s.record e).fa = s.fa := rfl
@[simp] theorem State.record_seed0 (e : WireEvent) : (s.record e).seed0 = s.seed0 := rfl
@[simp] theorem State.record_lenParam (e : WireEvent) : (s.record e).lenParam = s.lenParam := rfl
@[simp] theorem State.record_fb (e : WireEvent) : (s.record e).fb = s.fb := rfl
@[simp] theorem State.record_idx (e : WireEvent) : (s.record e).idx = s.idx := rfl
@[simp] theorem State.record_waitCnt (e : WireEvent) : (s.record e).waitCnt = s.waitCnt := rfl
@[simp] theorem State.record_digest (e : WireEvent) : (s.record e).digest = s.digest := rfl
@[simp] theorem State.record_ready (e : WireEvent) : (s.record e).ready = s.ready := rfl
@[simp] theorem State.record_phase (e : WireEvent) : (s.record e).phase = s.phase := rfl
@[simp] theorem State.record_upc (e : WireEvent) : (s.record e).upc = s.upc := rfl
@[simp] theorem State.record_err (e : WireEvent) : (s.record e).err = s.err := rfl
@[simp] theorem State.record_fault (e : WireEvent) : (s.record e).fault = s.fault := rfl
@[simp] theorem State.record_len (e : WireEvent) : (s.record e).len = s.len := rfl
@[simp] theorem State.record_img (e : WireEvent) : (s.record e).img = s.img := rfl
@[simp] theorem State.record_waitLimit (e : WireEvent) : (s.record e).waitLimit = s.waitLimit := rfl
@[simp] theorem State.record_failPolicy (e : WireEvent) : (s.record e).failPolicy = s.failPolicy := rfl
@[simp] theorem State.record_port (e : WireEvent) : (s.record e).port = s.port := rfl
@[simp] theorem State.record_result (e : WireEvent) : (s.record e).result = s.result := rfl
@[simp] theorem State.record_peer (e : WireEvent) : (s.record e).peer = s.peer := rfl
@[simp] theorem State.record_draws (e : WireEvent) : (s.record e).draws = s.draws := rfl
@[simp] theorem State.record_trace (e : WireEvent) : (s.record e).trace = s.trace ++ [e] := rfl

/-! ### `State.crcNew` -/

@[simp] theorem State.crcNew_crcReg (a b : Byte) : (s.crcNew a b).crcReg = some Config.crcSeed := rfl
@[simp] theorem State.crcNew_crcFin (a b : Byte) : (s.crcNew a b).crcFin = some (finalizeValue a b) := rfl
@[simp] theorem State.crcNew_crcSt (a b : Byte) : (s.crcNew a b).crcSt = .live := rfl
@[simp] theorem State.crcNew_ksgSeed (a b : Byte) : (s.crcNew a b).ksgSeed = s.ksgSeed := rfl
@[simp] theorem State.crcNew_ksgSt (a b : Byte) : (s.crcNew a b).ksgSt = s.ksgSt := rfl
@[simp] theorem State.crcNew_pp (a b : Byte) : (s.crcNew a b).pp = s.pp := rfl
@[simp] theorem State.crcNew_token (a b : Byte) : (s.crcNew a b).token = s.token := rfl
@[simp] theorem State.crcNew_faRaw (a b : Byte) : (s.crcNew a b).faRaw = s.faRaw := rfl
@[simp] theorem State.crcNew_fa (a b : Byte) : (s.crcNew a b).fa = s.fa := rfl
@[simp] theorem State.crcNew_seed0 (a b : Byte) : (s.crcNew a b).seed0 = s.seed0 := rfl
@[simp] theorem State.crcNew_lenParam (a b : Byte) : (s.crcNew a b).lenParam = s.lenParam := rfl
@[simp] theorem State.crcNew_fb (a b : Byte) : (s.crcNew a b).fb = s.fb := rfl
@[simp] theorem State.crcNew_idx (a b : Byte) : (s.crcNew a b).idx = s.idx := rfl
@[simp] theorem State.crcNew_waitCnt (a b : Byte) : (s.crcNew a b).waitCnt = s.waitCnt := rfl
@[simp] theorem State.crcNew_digest (a b : Byte) : (s.crcNew a b).digest = s.digest := rfl
@[simp] theorem State.crcNew_ready (a b : Byte) : (s.crcNew a b).ready = s.ready := rfl
@[simp] theorem State.crcNew_phase (a b : Byte) : (s.crcNew a b).phase = s.phase := rfl
@[simp] theorem State.crcNew_upc (a b : Byte) : (s.crcNew a b).upc = s.upc := rfl
@[simp] theorem State.crcNew_err (a b : Byte) : (s.crcNew a b).err = s.err := rfl
@[simp] theorem State.crcNew_fault (a b : Byte) : (s.crcNew a b).fault = s.fault := rfl
@[simp] theorem State.crcNew_len (a b : Byte) : (s.crcNew a b).len = s.len := rfl
@[simp] theorem State.crcNew_img (a b : Byte) : (s.crcNew a b).img = s.img := rfl
@[simp] theorem State.crcNew_waitLimit (a b : Byte) : (s.crcNew a b).waitLimit = s.waitLimit := rfl
@[simp] theorem State.crcNew_failPolicy (a b : Byte) : (s.crcNew a b).failPolicy = s.failPolicy := rfl
@[simp] theorem State.crcNew_port (a b : Byte) : (s.crcNew a b).port = s.port := rfl
@[simp] theorem State.crcNew_result (a b : Byte) : (s.crcNew a b).result = s.result := rfl
@[simp] theorem State.crcNew_peer (a b : Byte) : (s.crcNew a b).peer = s.peer := rfl
@[simp] theorem State.crcNew_draws (a b : Byte) : (s.crcNew a b).draws = s.draws := rfl
@[simp] theorem State.crcNew_trace (a b : Byte) : (s.crcNew a b).trace = s.trace := rfl

/-! ### `State.ksgNew` -/

@[simp] theorem State.ksgNew_crcReg (seed : Word) : (s.ksgNew seed).crcReg = s.crcReg := rfl
@[simp] theorem State.ksgNew_crcFin (seed : Word) : (s.ksgNew seed).crcFin = s.crcFin := rfl
@[simp] theorem State.ksgNew_crcSt (seed : Word) : (s.ksgNew seed).crcSt = s.crcSt := rfl
@[simp] theorem State.ksgNew_ksgSeed (seed : Word) : (s.ksgNew seed).ksgSeed = some seed := rfl
@[simp] theorem State.ksgNew_ksgSt (seed : Word) : (s.ksgNew seed).ksgSt = .live := rfl
@[simp] theorem State.ksgNew_pp (seed : Word) : (s.ksgNew seed).pp = s.pp := rfl
@[simp] theorem State.ksgNew_token (seed : Word) : (s.ksgNew seed).token = s.token := rfl
@[simp] theorem State.ksgNew_faRaw (seed : Word) : (s.ksgNew seed).faRaw = s.faRaw := rfl
@[simp] theorem State.ksgNew_fa (seed : Word) : (s.ksgNew seed).fa = s.fa := rfl
@[simp] theorem State.ksgNew_seed0 (seed : Word) : (s.ksgNew seed).seed0 = s.seed0 := rfl
@[simp] theorem State.ksgNew_lenParam (seed : Word) : (s.ksgNew seed).lenParam = s.lenParam := rfl
@[simp] theorem State.ksgNew_fb (seed : Word) : (s.ksgNew seed).fb = s.fb := rfl
@[simp] theorem State.ksgNew_idx (seed : Word) : (s.ksgNew seed).idx = s.idx := rfl
@[simp] theorem State.ksgNew_waitCnt (seed : Word) : (s.ksgNew seed).waitCnt = s.waitCnt := rfl
@[simp] theorem State.ksgNew_digest (seed : Word) : (s.ksgNew seed).digest = s.digest := rfl
@[simp] theorem State.ksgNew_ready (seed : Word) : (s.ksgNew seed).ready = s.ready := rfl
@[simp] theorem State.ksgNew_phase (seed : Word) : (s.ksgNew seed).phase = s.phase := rfl
@[simp] theorem State.ksgNew_upc (seed : Word) : (s.ksgNew seed).upc = s.upc := rfl
@[simp] theorem State.ksgNew_err (seed : Word) : (s.ksgNew seed).err = s.err := rfl
@[simp] theorem State.ksgNew_fault (seed : Word) : (s.ksgNew seed).fault = s.fault := rfl
@[simp] theorem State.ksgNew_len (seed : Word) : (s.ksgNew seed).len = s.len := rfl
@[simp] theorem State.ksgNew_img (seed : Word) : (s.ksgNew seed).img = s.img := rfl
@[simp] theorem State.ksgNew_waitLimit (seed : Word) : (s.ksgNew seed).waitLimit = s.waitLimit := rfl
@[simp] theorem State.ksgNew_failPolicy (seed : Word) : (s.ksgNew seed).failPolicy = s.failPolicy := rfl
@[simp] theorem State.ksgNew_port (seed : Word) : (s.ksgNew seed).port = s.port := rfl
@[simp] theorem State.ksgNew_result (seed : Word) : (s.ksgNew seed).result = s.result := rfl
@[simp] theorem State.ksgNew_peer (seed : Word) : (s.ksgNew seed).peer = s.peer := rfl
@[simp] theorem State.ksgNew_draws (seed : Word) : (s.ksgNew seed).draws = s.draws := rfl
@[simp] theorem State.ksgNew_trace (seed : Word) : (s.ksgNew seed).trace = s.trace := rfl

/-! ### `State.openSession` -/

@[simp] theorem State.openSession_crcReg (cfg : Byte) : (s.openSession cfg).crcReg = s.crcReg := rfl
@[simp] theorem State.openSession_crcFin (cfg : Byte) : (s.openSession cfg).crcFin = s.crcFin := rfl
@[simp] theorem State.openSession_crcSt (cfg : Byte) : (s.openSession cfg).crcSt = s.crcSt := rfl
@[simp] theorem State.openSession_ksgSeed (cfg : Byte) : (s.openSession cfg).ksgSeed = s.ksgSeed := rfl
@[simp] theorem State.openSession_ksgSt (cfg : Byte) : (s.openSession cfg).ksgSt = s.ksgSt := rfl
@[simp] theorem State.openSession_pp (cfg : Byte) : (s.openSession cfg).pp = some (Config.ppBase ||| cfg) := rfl
@[simp] theorem State.openSession_token (cfg : Byte) : (s.openSession cfg).token = s.token := rfl
@[simp] theorem State.openSession_faRaw (cfg : Byte) : (s.openSession cfg).faRaw = s.faRaw := rfl
@[simp] theorem State.openSession_fa (cfg : Byte) : (s.openSession cfg).fa = s.fa := rfl
@[simp] theorem State.openSession_seed0 (cfg : Byte) : (s.openSession cfg).seed0 = s.seed0 := rfl
@[simp] theorem State.openSession_lenParam (cfg : Byte) : (s.openSession cfg).lenParam = s.lenParam := rfl
@[simp] theorem State.openSession_fb (cfg : Byte) : (s.openSession cfg).fb = s.fb := rfl
@[simp] theorem State.openSession_idx (cfg : Byte) : (s.openSession cfg).idx = some 0#32 := rfl
@[simp] theorem State.openSession_waitCnt (cfg : Byte) : (s.openSession cfg).waitCnt = some 0 := rfl
@[simp] theorem State.openSession_digest (cfg : Byte) : (s.openSession cfg).digest = s.digest := rfl
@[simp] theorem State.openSession_ready (cfg : Byte) : (s.openSession cfg).ready = s.ready := rfl
@[simp] theorem State.openSession_phase (cfg : Byte) : (s.openSession cfg).phase = .probing := rfl
@[simp] theorem State.openSession_upc (cfg : Byte) : (s.openSession cfg).upc = s.upc := rfl
@[simp] theorem State.openSession_err (cfg : Byte) : (s.openSession cfg).err = .ok := rfl
@[simp] theorem State.openSession_fault (cfg : Byte) : (s.openSession cfg).fault = s.fault := rfl
@[simp] theorem State.openSession_len (cfg : Byte) : (s.openSession cfg).len = s.len := rfl
@[simp] theorem State.openSession_img (cfg : Byte) : (s.openSession cfg).img = s.img := rfl
@[simp] theorem State.openSession_waitLimit (cfg : Byte) : (s.openSession cfg).waitLimit = s.waitLimit := rfl
@[simp] theorem State.openSession_failPolicy (cfg : Byte) : (s.openSession cfg).failPolicy = s.failPolicy := rfl
@[simp] theorem State.openSession_port (cfg : Byte) : (s.openSession cfg).port = s.port := rfl
@[simp] theorem State.openSession_result (cfg : Byte) : (s.openSession cfg).result = s.result := rfl
@[simp] theorem State.openSession_peer (cfg : Byte) : (s.openSession cfg).peer = s.peer := rfl
@[simp] theorem State.openSession_draws (cfg : Byte) : (s.openSession cfg).draws = s.draws := rfl
@[simp] theorem State.openSession_trace (cfg : Byte) : (s.openSession cfg).trace = s.trace := rfl

/-! ### `State.clearSession` -/

@[simp] theorem State.clearSession_crcReg : s.clearSession.crcReg = none := rfl
@[simp] theorem State.clearSession_crcFin : s.clearSession.crcFin = none := rfl
@[simp] theorem State.clearSession_crcSt : s.clearSession.crcSt = .unset := rfl
@[simp] theorem State.clearSession_ksgSeed : s.clearSession.ksgSeed = none := rfl
@[simp] theorem State.clearSession_ksgSt : s.clearSession.ksgSt = .unset := rfl
@[simp] theorem State.clearSession_pp : s.clearSession.pp = none := rfl
@[simp] theorem State.clearSession_token : s.clearSession.token = none := rfl
@[simp] theorem State.clearSession_faRaw : s.clearSession.faRaw = none := rfl
@[simp] theorem State.clearSession_fa : s.clearSession.fa = none := rfl
@[simp] theorem State.clearSession_seed0 : s.clearSession.seed0 = none := rfl
@[simp] theorem State.clearSession_lenParam : s.clearSession.lenParam = none := rfl
@[simp] theorem State.clearSession_fb : s.clearSession.fb = none := rfl
@[simp] theorem State.clearSession_idx : s.clearSession.idx = none := rfl
@[simp] theorem State.clearSession_waitCnt : s.clearSession.waitCnt = none := rfl
@[simp] theorem State.clearSession_digest : s.clearSession.digest = none := rfl
@[simp] theorem State.clearSession_ready : s.clearSession.ready = false := rfl
@[simp] theorem State.clearSession_phase : s.clearSession.phase = .noSession := rfl
@[simp] theorem State.clearSession_upc : s.clearSession.upc = .h0 := rfl
@[simp] theorem State.clearSession_err : s.clearSession.err = .ok := rfl
@[simp] theorem State.clearSession_fault : s.clearSession.fault = s.fault := rfl
@[simp] theorem State.clearSession_len : s.clearSession.len = s.len := rfl
@[simp] theorem State.clearSession_img : s.clearSession.img = s.img := rfl
@[simp] theorem State.clearSession_waitLimit : s.clearSession.waitLimit = s.waitLimit := rfl
@[simp] theorem State.clearSession_failPolicy : s.clearSession.failPolicy = s.failPolicy := rfl
@[simp] theorem State.clearSession_port : s.clearSession.port = s.port := rfl
@[simp] theorem State.clearSession_result : s.clearSession.result = s.result := rfl
@[simp] theorem State.clearSession_peer : s.clearSession.peer = s.peer := rfl
@[simp] theorem State.clearSession_draws : s.clearSession.draws = s.draws := rfl
@[simp] theorem State.clearSession_trace : s.clearSession.trace = [] := rfl

/-! ### `State.blockReset` -/

@[simp] theorem State.blockReset_crcReg : s.blockReset.crcReg = none := rfl
@[simp] theorem State.blockReset_crcFin : s.blockReset.crcFin = none := rfl
@[simp] theorem State.blockReset_crcSt : s.blockReset.crcSt = .unset := rfl
@[simp] theorem State.blockReset_ksgSeed : s.blockReset.ksgSeed = none := rfl
@[simp] theorem State.blockReset_ksgSt : s.blockReset.ksgSt = .unset := rfl
@[simp] theorem State.blockReset_pp : s.blockReset.pp = none := rfl
@[simp] theorem State.blockReset_token : s.blockReset.token = none := rfl
@[simp] theorem State.blockReset_faRaw : s.blockReset.faRaw = none := rfl
@[simp] theorem State.blockReset_fa : s.blockReset.fa = none := rfl
@[simp] theorem State.blockReset_seed0 : s.blockReset.seed0 = none := rfl
@[simp] theorem State.blockReset_lenParam : s.blockReset.lenParam = none := rfl
@[simp] theorem State.blockReset_fb : s.blockReset.fb = none := rfl
@[simp] theorem State.blockReset_idx : s.blockReset.idx = none := rfl
@[simp] theorem State.blockReset_waitCnt : s.blockReset.waitCnt = none := rfl
@[simp] theorem State.blockReset_digest : s.blockReset.digest = none := rfl
@[simp] theorem State.blockReset_ready : s.blockReset.ready = false := rfl
@[simp] theorem State.blockReset_phase : s.blockReset.phase = .noSession := rfl
@[simp] theorem State.blockReset_upc : s.blockReset.upc = .h0 := rfl
@[simp] theorem State.blockReset_err : s.blockReset.err = .ok := rfl
@[simp] theorem State.blockReset_fault : s.blockReset.fault = s.fault := rfl
@[simp] theorem State.blockReset_len : s.blockReset.len = s.len := rfl
@[simp] theorem State.blockReset_img : s.blockReset.img = s.img := rfl
@[simp] theorem State.blockReset_waitLimit : s.blockReset.waitLimit = s.waitLimit := rfl
@[simp] theorem State.blockReset_failPolicy : s.blockReset.failPolicy = s.failPolicy := rfl
@[simp] theorem State.blockReset_port : s.blockReset.port = s.port := rfl
@[simp] theorem State.blockReset_result : s.blockReset.result = none := rfl
@[simp] theorem State.blockReset_peer : s.blockReset.peer = s.peer := rfl
@[simp] theorem State.blockReset_draws : s.blockReset.draws = s.draws := rfl
@[simp] theorem State.blockReset_trace : s.blockReset.trace = [] := rfl

end Sys2Proof.Machine
end

