-- ==== Sys2Proof/Laws/Exchange.lean ====
section
/-! SUPPORT. What an exchange does: it takes the next answer and adds to the trace, and leaves every other field. -/

namespace Sys2Proof.Machine

variable (s : State)


@[simp] theorem State.heard_crcReg (pos : WirePos) (w : Word) : (s.heard pos w).crcReg = s.crcReg := rfl
@[simp] theorem State.heard_crcFin (pos : WirePos) (w : Word) : (s.heard pos w).crcFin = s.crcFin := rfl
@[simp] theorem State.heard_crcSt (pos : WirePos) (w : Word) : (s.heard pos w).crcSt = s.crcSt := rfl
@[simp] theorem State.heard_ksgSeed (pos : WirePos) (w : Word) : (s.heard pos w).ksgSeed = s.ksgSeed := rfl
@[simp] theorem State.heard_ksgSt (pos : WirePos) (w : Word) : (s.heard pos w).ksgSt = s.ksgSt := rfl
@[simp] theorem State.heard_pp (pos : WirePos) (w : Word) : (s.heard pos w).pp = s.pp := rfl
@[simp] theorem State.heard_token (pos : WirePos) (w : Word) : (s.heard pos w).token = s.token := rfl
@[simp] theorem State.heard_faRaw (pos : WirePos) (w : Word) : (s.heard pos w).faRaw = s.faRaw := rfl
@[simp] theorem State.heard_fa (pos : WirePos) (w : Word) : (s.heard pos w).fa = s.fa := rfl
@[simp] theorem State.heard_seed0 (pos : WirePos) (w : Word) : (s.heard pos w).seed0 = s.seed0 := rfl
@[simp] theorem State.heard_lenParam (pos : WirePos) (w : Word) : (s.heard pos w).lenParam = s.lenParam := rfl
@[simp] theorem State.heard_fb (pos : WirePos) (w : Word) : (s.heard pos w).fb = s.fb := rfl
@[simp] theorem State.heard_idx (pos : WirePos) (w : Word) : (s.heard pos w).idx = s.idx := rfl
@[simp] theorem State.heard_waitCnt (pos : WirePos) (w : Word) : (s.heard pos w).waitCnt = s.waitCnt := rfl
@[simp] theorem State.heard_digest (pos : WirePos) (w : Word) : (s.heard pos w).digest = s.digest := rfl
@[simp] theorem State.heard_ready (pos : WirePos) (w : Word) : (s.heard pos w).ready = s.ready := rfl
@[simp] theorem State.heard_phase (pos : WirePos) (w : Word) : (s.heard pos w).phase = s.phase := rfl
@[simp] theorem State.heard_upc (pos : WirePos) (w : Word) : (s.heard pos w).upc = s.upc := rfl
@[simp] theorem State.heard_err (pos : WirePos) (w : Word) : (s.heard pos w).err = s.err := rfl
@[simp] theorem State.heard_fault (pos : WirePos) (w : Word) : (s.heard pos w).fault = s.fault := rfl
@[simp] theorem State.heard_len (pos : WirePos) (w : Word) : (s.heard pos w).len = s.len := rfl
@[simp] theorem State.heard_img (pos : WirePos) (w : Word) : (s.heard pos w).img = s.img := rfl
@[simp] theorem State.heard_waitLimit (pos : WirePos) (w : Word) : (s.heard pos w).waitLimit = s.waitLimit := rfl
@[simp] theorem State.heard_failPolicy (pos : WirePos) (w : Word) : (s.heard pos w).failPolicy = s.failPolicy := rfl
@[simp] theorem State.heard_port (pos : WirePos) (w : Word) : (s.heard pos w).port = s.port := rfl
@[simp] theorem State.heard_result (pos : WirePos) (w : Word) : (s.heard pos w).result = s.result := rfl
@[simp] theorem State.heard_trace (pos : WirePos) (w : Word) :
    (s.heard pos w).trace = s.trace ++ [⟨pos, w, s.nextAnswer⟩] := rfl

@[simp] theorem State.heard_peer (pos : WirePos) (w : Word) : (s.heard pos w).peer = s.peer.tail := rfl

@[simp] theorem State.heard_draws (pos : WirePos) (w : Word) : (s.heard pos w).draws = drawsAfter s.peer s.draws := rfl

@[simp] theorem State.xchg32_snd (pos : WirePos) (w : Word) : (s.xchg32 pos w).2 = s.heard pos w := rfl

@[simp] theorem State.x16_snd (pos : WirePos) (h : Half) : (s.x16 pos h).2 = s.heard pos (zext16 h) := rfl

@[simp] theorem State.x32_snd (pos : WirePos) (w : Word) : (s.x32 pos w).2 = s.heard pos w := rfl

/-- What a 16-bit exchange answers: the upper half of the response, zero or nothing on a failure. -/
theorem State.x16_fst (pos : WirePos) (h : Half) :
    (s.x16 pos h).1 = underPolicy s.failPolicy ((responseOf s.nextAnswer).map hi16) := rfl

/-- What a 32-bit exchange answers: the response, zero or nothing on a failure. -/
theorem State.x32_fst (pos : WirePos) (w : Word) :
    (s.x32 pos w).1 = underPolicy s.failPolicy (responseOf s.nextAnswer) := rfl

/-- A 16-bit exchange is surfaced as a failure exactly when it failed under SURFACE. -/
theorem State.x16_eq_none (pos : WirePos) (h : Half) :
    (s.x16 pos h).1 = none ↔ s.nextAnswer = .xfail ∧ s.failPolicy = .surface := by
  rw [State.x16_fst]
  cases s.nextAnswer <;> cases s.failPolicy <;> simp [responseOf, underPolicy]

/-- A 32-bit exchange is surfaced as a failure exactly when it failed under SURFACE. -/
theorem State.x32_eq_none (pos : WirePos) (w : Word) :
    (s.x32 pos w).1 = none ↔ s.nextAnswer = .xfail ∧ s.failPolicy = .surface := by
  rw [State.x32_fst]
  cases s.nextAnswer <;> cases s.failPolicy <;> simp [responseOf, underPolicy]

/-- The answer depends on nothing but the peer and the count of draws. -/
theorem State.nextAnswer_congr {s t : State} (hp : t.peer = s.peer) (hd : t.draws = s.draws) :
    t.nextAnswer = s.nextAnswer := by
  simp [State.nextAnswer, hp, hd]

end Sys2Proof.Machine
end

