-- ==== Sys2Proof/Laws/Memory.lean ====
section
/-! SUPPORT. The laws of the image's cells: what a read gives after a write, and that every memory operation keeps the
canonical form. -/

namespace Sys2Proof.Machine

@[simp] theorem Memory.read_nil (a : Nat) : Memory.read [] a = Config.blankByte := rfl

@[simp] theorem Memory.read_cell (b : Nat) (v : Byte) (m : Memory) (a : Nat) :
    Memory.read ((b, v) :: m) a = if b = a then v else Memory.read m a := rfl

@[simp] theorem Memory.wfFrom_cell (lo a : Nat) (v : Byte) (m : Memory) :
    Memory.wfFrom lo ((a, v) :: m) = true ↔ lo ≤ a ∧ v ≠ Config.blankByte ∧ Memory.wfFrom (a + 1) m = true := by
  simp [Memory.wfFrom, and_assoc]

/-- A memory in canonical form from a higher address is so from a lower one. -/
theorem Memory.wfFrom_mono {lo lo' : Nat} {m : Memory} (h : lo ≤ lo') (hm : Memory.wfFrom lo' m = true) :
    Memory.wfFrom lo m = true := by
  cases m with
  | nil => rfl
  | cons c m =>
    obtain ⟨a, v⟩ := c
    rw [Memory.wfFrom_cell] at hm ⊢
    exact ⟨h.trans hm.1, hm.2⟩

/-- Below its first address a canonical memory reads as blank. -/
theorem Memory.read_below {m : Memory} : ∀ {lo a : Nat}, Memory.wfFrom lo m = true → a < lo →
    Memory.read m a = Config.blankByte := by
  induction m with
  | nil => intros; rfl
  | cons c m ih =>
    obtain ⟨b, v⟩ := c
    intro lo a hm ha
    rw [Memory.wfFrom_cell] at hm
    rw [Memory.read_cell, if_neg (by omega)]
    exact ih hm.2.2 (by omega)

/-- A cell put in front keeps the canonical form. -/
theorem Memory.cons_wf {lo a : Nat} {v : Byte} {m : Memory} (h : lo ≤ a) (hm : Memory.wfFrom (a + 1) m = true) :
    Memory.wfFrom lo (Memory.cons a v m) = true := by
  unfold Memory.cons
  split
  · exact Memory.wfFrom_mono (by omega) hm
  · exact (Memory.wfFrom_cell ..).2 ⟨h, ‹_›, hm⟩

/-- What a read gives after a cell is put in front. -/
theorem Memory.read_cons {a : Nat} {v : Byte} {m : Memory} (hm : Memory.wfFrom (a + 1) m = true) (b : Nat) :
    Memory.read (Memory.cons a v m) b = if a = b then v else Memory.read m b := by
  unfold Memory.cons
  by_cases hv : v = Config.blankByte
  · by_cases hb : a = b
    · subst hb; simp [hv, Memory.read_below hm (Nat.lt_succ_self a)]
    · simp [hv, hb]
  · simp [hv]

/-- A write keeps the canonical form. -/
theorem Memory.write_wfFrom {v : Byte} {a : Nat} {m : Memory} : ∀ {lo : Nat}, lo ≤ a → Memory.wfFrom lo m = true →
    Memory.wfFrom lo (Memory.write m a v) = true := by
  induction m with
  | nil => intro lo h _; exact Memory.cons_wf h rfl
  | cons c m ih =>
    obtain ⟨b, u⟩ := c
    intro lo h hm
    have hc := (Memory.wfFrom_cell ..).1 hm
    simp only [Memory.write]
    split
    · exact Memory.cons_wf h ((Memory.wfFrom_cell ..).2 ⟨by omega, hc.2⟩)
    · split
      · rename_i hab; subst hab; exact Memory.cons_wf h hc.2.2
      · exact (Memory.wfFrom_cell ..).2 ⟨hc.1, hc.2.1, ih (by omega) hc.2.2⟩

/-- A write keeps the canonical form. -/
theorem Memory.write_wf {m : Memory} (hm : m.wf = true) (a : Nat) (v : Byte) : (m.write a v).wf = true :=
  Memory.write_wfFrom (Nat.zero_le a) hm

/-- A byte read after a write: the written byte at its address, the old one elsewhere. -/
theorem Memory.read_write {v : Byte} {a : Nat} {m : Memory} : ∀ {lo : Nat}, Memory.wfFrom lo m = true → ∀ b,
    Memory.read (Memory.write m a v) b = if a = b then v else Memory.read m b := by
  induction m with
  | nil => intro lo _ b; exact Memory.read_cons rfl b
  | cons c m ih =>
    obtain ⟨d, u⟩ := c
    intro lo hm b
    have hc := (Memory.wfFrom_cell ..).1 hm
    simp only [Memory.write]
    split
    · exact Memory.read_cons ((Memory.wfFrom_cell ..).2 ⟨by omega, hc.2⟩) b
    · split
      · rename_i hab
        subst hab
        rw [Memory.read_cons hc.2.2, Memory.read_cell]
        split <;> rfl
      · rw [Memory.read_cell, Memory.read_cell, ih hc.2.2 b]
        by_cases h1 : d = b <;> by_cases h2 : a = b <;> simp [h1, h2]; omega

/-- Laying bytes out keeps the canonical form. -/
theorem Memory.writeBytes_wf (bytes : List Byte) : ∀ {m : Memory} {a : Nat}, m.wf = true →
    (m.writeBytes a bytes).wf = true := by
  induction bytes with
  | nil => intro m a h; exact h
  | cons v rest ih => intro m a h; exact ih (Memory.write_wf h a v)

end Sys2Proof.Machine
end

