-- ==== Sys2Proof/Laws/Units.lean ====
section
/-! SUPPORT. What the bodies of the CRC and keystream operations can do, each said once. -/

namespace Sys2Proof.Machine

variable {s : State}

theorem need_ok {α : Type} {o : Option α} {v : α} : need o = .ok v ↔ o = some v := by
  cases o <;> simp [need]

theorem need_some {α : Type} (v : α) : need (some v) = .ok v := rfl

/-- A CRC word step succeeds exactly in LIVE, on the register's value, and changes the register alone. -/
theorem State.crcStep_ok {v : Word} {s' : State} :
    s.crcStep v = .ok s' ↔
      s.crcSt = .live ∧ ∃ r, s.crcReg = some r ∧ s' = { s with crcReg := some (crcWord r v) } := by
  unfold State.crcStep
  cases s.crcSt <;> cases s.crcReg <;>
    simp [CrcSt.check, need, bind, Except.bind, pure, Except.pure, eq_comm]

/-- A digest succeeds exactly in LIVE with both registers holding values; it steps the finalize value once. -/
theorem State.crcDigest_ok {p : Half × State} :
    s.crcDigest = .ok p ↔
      s.crcSt = .live ∧ ∃ r f, s.crcReg = some r ∧ s.crcFin = some f ∧
        p = (lo16 (crcWord r f), { s with crcReg := some (crcWord r f), crcSt := .digested }) := by
  unfold State.crcDigest
  cases s.crcSt <;> cases s.crcReg <;> cases s.crcFin <;>
    simp [CrcSt.check, need, bind, Except.bind, pure, Except.pure, eq_comm]

/-- A keystream step succeeds exactly in LIVE with a seed; it advances the seed and answers from the new one. -/
theorem State.ksgStep_ok {v index : Word} {p : Word × State} :
    s.ksgStep v index = .ok p ↔
      s.ksgSt = .live ∧ ∃ seed, s.ksgSeed = some seed ∧
        p = (ksgOut (ksgNext seed) v index, { s with ksgSeed := some (ksgNext seed) }) := by
  unfold State.ksgStep
  cases s.ksgSt <;> cases s.ksgSeed <;>
    simp [KsgSt.check, need, bind, Except.bind, pure, Except.pure, eq_comm]

/-- An image read succeeds exactly below `LEN`. -/
theorem State.imgRead8_ok {a : Nat} {v : Byte} : s.imgRead8 a = .ok v ↔ a < s.len.toNat ∧ v = s.img.read a := by
  unfold State.imgRead8
  split <;> simp [*, eq_comm]

/-- A 16-bit image read below `LEN`. -/
theorem State.memRead2_eq {a : Nat} (h : a + 1 < s.len.toNat) :
    s.memRead2 a = .ok ((s.img.read a).setWidth 16 ||| (s.img.read (a + 1)).setWidth 16 <<< 8) := by
  simp [State.memRead2, State.imgRead8, h, show a < s.len.toNat by omega, bind, Except.bind, pure, Except.pure]

/-- A 32-bit image read below `LEN`. -/
theorem State.memRead4_eq {a : Nat} (h : a + 3 < s.len.toNat) :
    s.memRead4 a = .ok ((s.img.read a).setWidth 32 ||| (s.img.read (a + 1)).setWidth 32 <<< 8 |||
      (s.img.read (a + 2)).setWidth 32 <<< 16 ||| (s.img.read (a + 3)).setWidth 32 <<< 24) := by
  simp [State.memRead4, State.imgRead8, h, show a < s.len.toNat by omega, show a + 1 < s.len.toNat by omega,
    show a + 2 < s.len.toNat by omega, bind, Except.bind, pure, Except.pure]

end Sys2Proof.Machine
end

