-- ==== Sys2Proof/Laws/Wire.lean ====
section
/-! SUPPORT. What a micro-step, an instruction and a step can answer, each said once. -/

namespace Sys2Proof.Machine

variable {s : State}

/-- A micro-step at its place that forms its word exchanges it and goes on. -/
theorem microStep_at {α : Type} {m : String} {u : MicroStep} {w : Word} {ex : State → Option α × State}
    {fin : α → State → Except Fault State} {s1 : State} (hr : s.phase.running = true) (hu : s.upc = u)
    (hp : s.prepare u = .ok (w, s1)) :
    microStep m u w ex fin s = .next (s.afterExchange (ex s1) fin) := by
  simp [microStep, hr, hu, hp]

/-- Everything a micro-step can answer with a next state: it stands at its place, and either a model fault undid it or it
formed its word, exchanged it and went on. -/
theorem microStep_next {α : Type} {m : String} {u : MicroStep} {w : Word} {ex : State → Option α × State}
    {fin : α → State → Except Fault State} {s' : State} (h : microStep m u w ex fin s = .next s') :
    s.phase.running = true ∧ s.upc = u ∧
      ((∃ f, s.prepare u = .error f ∧ s' = s.modelFault f) ∨
       ∃ s1, s.prepare u = .ok (w, s1) ∧ s' = s.afterExchange (ex s1) fin) := by
  unfold microStep at h
  split at h
  · rename_i hg
    refine ⟨hg.1, hg.2, ?_⟩
    split at h
    · rename_i f hf
      cases h
      exact .inl ⟨f, hf, rfl⟩
    · rename_i w' s1 hp
      split at h
      · rename_i hw
        cases h
        exact .inr ⟨s1, hw ▸ hp, rfl⟩
      · cases h
  · cases h

/-- A micro-step that is not at its place, or not about to send that word, is refused by its name. -/
theorem microStep_refused {α : Type} {m : String} {u : MicroStep} {w : Word} {ex : State → Option α × State}
    {fin : α → State → Except Fault State} (h : ¬(s.phase.running = true ∧ s.upc = u)) :
    microStep m u w ex fin s = .refused (.notSent m) := by
  simp [microStep, h]

/-- A micro-step never answers `Outcome.fault`. -/
theorem microStep_ne_fault {α : Type} (m : String) (u : MicroStep) (w : Word) (ex : State → Option α × State)
    (fin : α → State → Except Fault State) (s : State) (f : Fault) : microStep m u w ex fin s ≠ .fault f := by
  unfold microStep
  split
  · split
    · simp
    · split <;> simp
  · simp

/-! ### Each wire word's meaning as its micro-step -/

theorem exec_wHdrStart (s : State) : exec .wHdrStart s =
    microStep "W_HDR_START" .h0 (zext16 Config.cmdHdrStart) (fun s1 => s1.x16 (.micro .h0) Config.cmdHdrStart) (goOn (.hdr 0)) s := rfl

theorem exec_wHdrWord (k : Fin 96) (h : Half) (s : State) : exec (.wHdrWord k h) s =
    microStep "W_HDR_WORD" (.hdr k) (zext16 h) (fun s1 => s1.x16 (.micro (.hdr k)) h) (goOn (afterHeaderWord k)) s := rfl

theorem exec_wHdrEnd (s : State) : exec .wHdrEnd s =
    microStep "W_HDR_END" .h97 (zext16 Config.cmdHdrEnd) (fun s1 => s1.x16 (.micro .h97) Config.cmdHdrEnd) (goOn .k0) s := rfl

theorem exec_wKeyProbe (s : State) : exec .wKeyProbe s =
    microStep "W_KEY_PROBE" .k0 (zext16 Config.cmdProbe) (fun s1 => s1.x16 (.micro .k0) Config.cmdProbe) (goOn .k1) s := rfl

theorem exec_wKeyPrime (pp : Byte) (s : State) : exec (.wKeyPrime pp) s =
    microStep "W_KEY_PRIME" .k1 (zext16 (withParam Config.cmdKey pp)) (fun s1 => s1.x16 (.micro .k1) (withParam Config.cmdKey pp)) (goOn .k2) s := rfl

theorem exec_wKeyFetch (pp : Byte) (s : State) : exec (.wKeyFetch pp) s =
    microStep "W_KEY_FETCH" .k2 (zext16 (withParam Config.cmdKey pp)) (fun s1 => s1.x16 (.micro .k2) (withParam Config.cmdKey pp)) (keyFetched) s := rfl

theorem exec_wCrcA (fa : Byte) (s : State) : exec (.wCrcA fa) s =
    microStep "W_CRC_A" .k3 (zext16 (withParam Config.cmdCrcA fa)) (fun s1 => s1.x16 (.micro .k3) (withParam Config.cmdCrcA fa)) (goOn .k4) s := rfl

theorem exec_wLen (h : Half) (s : State) : exec (.wLen h) s =
    microStep "W_LEN" .k4 (zext16 h) (fun s1 => s1.x16 (.micro .k4) h) (lengthSent) s := rfl

theorem exec_wPayload (i : Nat) (c : Word) (s : State) : exec (.wPayload i c) s =
    microStep "W_PAYLOAD" (.t i) c (fun s1 => s1.x32 (.micro (.t i)) c) (payloadSent i) s := rfl

theorem exec_wWait (s : State) : exec .wWait s =
    microStep "W_WAIT" .v0 (zext16 Config.cmdWait) (fun s1 => s1.x16 (.micro .v0) Config.cmdWait) (waited) s := rfl

theorem exec_wCsumStart (s : State) : exec .wCsumStart s =
    microStep "W_CSUM_START" .v1 (zext16 Config.cmdCsum) (fun s1 => s1.x16 (.micro .v1) Config.cmdCsum) (goOn .v2) s := rfl

theorem exec_wCsumValue (d : Half) (s : State) : exec (.wCsumValue d) s =
    microStep "W_CSUM_VALUE" .v2 (zext16 d) (fun s1 => s1.x16 (.micro .v2) d) (digestSent d) s := rfl

/-- No instruction answers `Outcome.fault`: a model fault is a next state with `FAULT` recorded. -/
theorem exec_ne_fault (i : Instr) (s : State) (f : Fault) : exec i s ≠ .fault f := by
  cases i with
  | seqNew cfg => simp only [exec, execSeqNew]; split <;> simp
  | seqProbe => simp only [exec, execSeqProbe]; split <;> simp
  | seqMultiboot => simp only [exec, execSeqMultiboot]; split <;> simp
  | wProbe => simp only [exec, execWProbe]; split <;> simp
  | crcInit => simp [exec, execCrcInit]
  | crcStep => simp [exec, execCrcStep]
  | crcDigest => simp [exec, execCrcDigest]
  | ksgInit => simp [exec, execKsgInit]
  | ksgStep => simp [exec, execKsgStep]
  | statusRead => simp [exec, execStatusRead]
  | wHdrStart => rw [exec_wHdrStart]; apply microStep_ne_fault
  | wHdrWord => rw [exec_wHdrWord]; apply microStep_ne_fault
  | wHdrEnd => rw [exec_wHdrEnd]; apply microStep_ne_fault
  | wKeyProbe => rw [exec_wKeyProbe]; apply microStep_ne_fault
  | wKeyPrime => rw [exec_wKeyPrime]; apply microStep_ne_fault
  | wKeyFetch => rw [exec_wKeyFetch]; apply microStep_ne_fault
  | wCrcA => rw [exec_wCrcA]; apply microStep_ne_fault
  | wLen => rw [exec_wLen]; apply microStep_ne_fault
  | wPayload => rw [exec_wPayload]; apply microStep_ne_fault
  | wWait => rw [exec_wWait]; apply microStep_ne_fault
  | wCsumStart => rw [exec_wCsumStart]; apply microStep_ne_fault
  | wCsumValue => rw [exec_wCsumValue]; apply microStep_ne_fault

/-- Everything a step can do when it answers a next state. -/
theorem step_next {s' : State} (h : step s = .next s') :
    (s.fetch = .idle ∧ s' = s) ∨
    (∃ t, s.fetch = .reset t ∧ s' = t.blockReset) ∨
    (∃ f t, s.fetch = .fault f t ∧ s' = t.modelFault f) ∨
    ∃ i t, s.fetch = .run i t ∧ exec i t = .next s' := by
  unfold step at h
  split at h
  · cases h; exact .inl ⟨‹_›, rfl⟩
  · cases h; exact .inr (.inl ⟨_, ‹_›, rfl⟩)
  · cases h; exact .inr (.inr (.inl ⟨_, _, ‹_›, rfl⟩))
  · exact .inr (.inr (.inr ⟨_, _, ‹_›, h⟩))
  · cases h

end Sys2Proof.Machine
end

