-- ==== Sys2Proof/Laws/Micro.lean ====
section
/-! SUPPORT. The two halves of each micro-step, each said once: the word it forms with what it does before its exchange,
and what it does with the response. -/

namespace Sys2Proof.Machine

variable {s : State}

/-! ### Before the exchange -/

/-- H(k+1) forms the header word of its two image bytes and changes nothing. -/
theorem State.prepare_hdr {k : Fin 96} (h : 2 * k.val + 1 < s.len.toNat) :
    s.prepare (.hdr k) =
      .ok (zext16 ((s.img.read (2 * k.val)).setWidth 16 ||| (s.img.read (2 * k.val + 1)).setWidth 16 <<< 8), s) := by
  simp [State.prepare, State.headerWord, State.memRead2_eq h, bind, Except.bind, pure, Except.pure]

/-- K1 and K2 form their word from `PP`. -/
theorem State.prepare_k1 {pp : Byte} (h : s.pp = some pp) :
    s.prepare .k1 = .ok (zext16 (withParam Config.cmdKey pp), s) := by
  simp [State.prepare, h, need, bind, Except.bind, pure, Except.pure]

theorem State.prepare_k2 {pp : Byte} (h : s.pp = some pp) :
    s.prepare .k2 = .ok (zext16 (withParam Config.cmdKey pp), s) := by
  simp [State.prepare, h, need, bind, Except.bind, pure, Except.pure]

/-- K3 forms its word from `FA`. -/
theorem State.prepare_k3 {fa : Byte} (h : s.fa = some fa) :
    s.prepare .k3 = .ok (zext16 (withParam Config.cmdCrcA fa), s) := by
  simp [State.prepare, h, need, bind, Except.bind, pure, Except.pure]

/-- A payload word inside the image. -/
theorem State.payloadWord_eq {i : Nat} (h : payloadOffset i + 3 < s.len.toNat) :
    s.payloadWord i = .ok ((s.img.read (payloadOffset i)).setWidth 32 |||
      (s.img.read (payloadOffset i + 1)).setWidth 32 <<< 8 ||| (s.img.read (payloadOffset i + 2)).setWidth 32 <<< 16 |||
      (s.img.read (payloadOffset i + 3)).setWidth 32 <<< 24) :=
  State.memRead4_eq h

/-- T(i) with both units live steps both with the plaintext word and forms the ciphertext. -/
theorem State.prepare_t {i : Nat} {w reg seed : Word} (hw : s.payloadWord i = .ok w) (hc : s.crcSt = .live)
    (hr : s.crcReg = some reg) (hk : s.ksgSt = .live) (hs : s.ksgSeed = some seed) :
    s.prepare (.t i) =
      .ok (ksgOut (ksgNext seed) w (wordIndex i),
        { s with crcReg := some (crcWord reg w), ksgSeed := some (ksgNext seed) }) := by
  simp only [State.prepare, hw, State.crcStep_ok.2 ⟨hc, reg, hr, rfl⟩, bind, Except.bind]
  exact State.ksgStep_ok.2 ⟨hk, seed, hs, rfl⟩

/-- V2 with the CRC live takes the digest and keeps it. -/
theorem State.prepare_v2 {reg fin : Word} (hc : s.crcSt = .live) (hr : s.crcReg = some reg) (hf : s.crcFin = some fin) :
    s.prepare .v2 =
      .ok (zext16 (lo16 (crcWord reg fin)),
        { s with crcReg := some (crcWord reg fin), crcSt := .digested, digest := some (lo16 (crcWord reg fin)) }) := by
  simp only [State.prepare, State.crcDigest_ok.2 ⟨hc, reg, fin, hr, hf, rfl⟩, bind, Except.bind, pure, Except.pure]

/-! ### After the exchange -/

/-- A surfaced failure raises TransportError. -/
theorem State.afterExchange_none {α : Type} (s s2 : State) (fin : α → State → Except Fault State) :
    s.afterExchange (none, s2) fin = s2.raise .transportError := rfl

/-- A response is handed on. -/
theorem State.afterExchange_some {α : Type} (s s2 : State) (r : α) (fin : α → State → Except Fault State) :
    s.afterExchange (some r, s2) fin = s.orFault (fin r s2) := rfl

/-- K2 with a token of the right mark. -/
theorem keyFetched_marked {t : Half} {pp : Byte} (ht : hi8 t = Config.tokenMark) (hp : s.pp = some pp) :
    keyFetched t s =
      .ok ({ s with
        token := some t, faRaw := some (loByte t), seed0 := some (deriveSeed (loByte t) pp),
        fa := some (loByte t + Config.faAdj) }.advance .k3) := by
  simp [keyFetched, ht, hp, need, bind, Except.bind, pure, Except.pure]

/-- K2 with any other token. -/
theorem keyFetched_unmarked {t : Half} (ht : hi8 t ≠ Config.tokenMark) :
    keyFetched t s = .ok ({ s with token := some t }.raise .failedHandshake) := if_neg ht

/-- K4 after a key exchange. -/
theorem lengthSent_eq {r : Half} {fa : Byte} {seed : Word} (hf : s.fa = some fa) (hs : s.seed0 = some seed) :
    lengthSent r s =
      .ok ((({ s with fb := some (loByte r) }.crcNew fa (loByte r)).ksgNew seed).advance s.afterKeys) := by
  simp only [lengthSent, hf, hs, need, bind, Except.bind, pure, Except.pure]

/-- V0 with its count. -/
theorem waited_eq {r : Half} {c : Nat} (hc : s.waitCnt = some c) :
    waited r s =
      .ok (if r = Config.rspWait then { s with waitCnt := some (c + 1) }.advance .v1
        else if limitReached s.waitLimit (c + 1) then { s with waitCnt := some (c + 1) }.raise .checksumTimeout
        else { s with waitCnt := some (c + 1) }.advance .v0) := by
  simp only [waited, hc, need, bind, Except.bind, pure, Except.pure]
  split
  · rfl
  · split <;> rfl

/-! ### Positions -/

/-- After a header word comes a micro-step of the header phase. -/
theorem phaseOf_afterHeaderWord (k : Fin 96) : phaseOf (afterHeaderWord k) = .headerSent := by
  unfold afterHeaderWord
  split <;> rfl

/-- The steps that send a payload word or leave the keys lead into Transferring or Validating. -/
theorem State.afterKeys_cases (s : State) :
    (0 < s.payloadWords ∧ s.afterKeys = .t 0) ∨ (s.payloadWords = 0 ∧ s.afterKeys = .v0) := by
  unfold State.afterKeys
  split
  · exact .inl ⟨‹_›, rfl⟩
  · exact .inr ⟨by omega, rfl⟩

theorem State.afterPayload_cases (s : State) (i : Nat) :
    (i + 1 < s.payloadWords ∧ s.afterPayload i = .t (i + 1)) ∨ (s.payloadWords ≤ i + 1 ∧ s.afterPayload i = .v0) := by
  unfold State.afterPayload
  split
  · exact .inl ⟨‹_›, rfl⟩
  · exact .inr ⟨by omega, rfl⟩

end Sys2Proof.Machine
end

