-- ==== Sys2Proof/Laws/PerInstr.lean ====
section
/-! SUPPORT. The family of statements made per instruction: what is written for a well-formed instruction reads back as
that instruction. -/

namespace Sys2Proof.Laws

/-- A byte survives being widened and cut back. -/
@[simp] theorem lo8_zext8 (b : Byte) : lo8 (zext8 b) = b := by simp [lo8, zext8]

/-- A 16-bit value survives being widened and cut back. -/
@[simp] theorem lo16_zext16 (h : Half) : lo16 (zext16 h) = h := by simp [lo16, zext16]

/-- A widened byte has no bit above bit 7. -/
@[simp] theorem onlyByte_zext8 (b : Byte) : onlyByte (zext8 b) = true := by
  simp only [onlyByte, zext8, beq_iff_eq]
  apply BitVec.eq_of_toNat_eq
  have := b.isLt
  simp [BitVec.toNat_ushiftRight, Nat.shiftRight_eq_div_pow]
  omega

/-- A word of format W16 has zeros in its upper half. -/
theorem zext16_upper (h : Half) : zext16 h &&& 0xFFFF0000#32 = 0#32 := by
  ext i hi
  simp only [zext16, BitVec.getElem_and, BitVec.getElem_setWidth]
  interval_cases i <;> simp

/-- The parameter byte of a command word whose low byte is zero. -/
theorem lo8_withParam {base : Half} (hb : base.setWidth 8 = 0#8) (p : Byte) : lo8 (zext16 (withParam base p)) = p := by
  simp only [lo8, zext16, withParam]
  rw [BitVec.setWidth_setWidth_of_le _ (by omega), BitVec.setWidth_or, hb]
  simp

/-- The command byte of a command word. -/
theorem withParam_upper (base : Half) (p : Byte) :
    zext16 (withParam base p) &&& 0xFFFFFF00#32 = zext16 (base &&& 0xFF00#16) := by
  ext i hi
  simp only [zext16, withParam, BitVec.getElem_and, BitVec.getElem_setWidth, BitVec.getLsbD_or, BitVec.getLsbD_and,
    BitVec.getLsbD_setWidth]
  interval_cases i <;> simp

namespace Codec

/-- Writing a well-formed instruction and reading it back gives the same instruction. -/
def Statement (i : Instr) : Prop := i.wellFormed = true → decode (encode i) = .ok i

theorem crcInit (a b : Byte) : Statement (.crcInit a b) := fun _ => by
  simp [encode, decode, decodeHost, decodeOp]
theorem crcStep (v : Word) : Statement (.crcStep v) := fun _ => by simp [encode, decode, decodeHost, decodeOp]
theorem crcDigest : Statement .crcDigest := fun _ => rfl
theorem ksgInit (v : Word) : Statement (.ksgInit v) := fun _ => by simp [encode, decode, decodeHost, decodeOp]
theorem ksgStep (v w : Word) : Statement (.ksgStep v w) := fun _ => by simp [encode, decode, decodeHost, decodeOp]
theorem seqNew (c : Byte) : Statement (.seqNew c) := fun _ => by simp [encode, decode, decodeHost, decodeOp]
theorem seqProbe : Statement .seqProbe := fun _ => rfl
theorem seqMultiboot : Statement .seqMultiboot := fun _ => rfl
theorem statusRead : Statement .statusRead := fun _ => rfl
theorem wProbe : Statement .wProbe := fun _ => rfl
theorem wHdrStart : Statement .wHdrStart := fun _ => rfl
theorem wHdrWord (k : Fin 96) (h : Half) : Statement (.wHdrWord k h) := fun _ => by
  simp [encode, decode, decodeWire, wireRow, wireInstr, zext16_upper]
theorem wHdrEnd : Statement .wHdrEnd := fun _ => rfl
theorem wKeyProbe : Statement .wKeyProbe := fun _ => rfl
theorem wKeyPrime (p : Byte) : Statement (.wKeyPrime p) := fun _ => by
  simp [encode, decode, decodeWire, wireRow, wireInstr, withParam_upper, lo8_withParam (base := Config.cmdKey) (by decide)]
  decide
theorem wKeyFetch (p : Byte) : Statement (.wKeyFetch p) := fun _ => by
  simp [encode, decode, decodeWire, wireRow, wireInstr, withParam_upper, lo8_withParam (base := Config.cmdKey) (by decide)]
  decide
theorem wCrcA (p : Byte) : Statement (.wCrcA p) := fun _ => by
  simp [encode, decode, decodeWire, wireRow, wireInstr, withParam_upper, lo8_withParam (base := Config.cmdCrcA) (by decide)]
  decide
theorem wLen (h : Half) : Statement (.wLen h) := fun _ => by
  simp [encode, decode, decodeWire, wireRow, wireInstr, zext16_upper]
theorem wPayload (i : Nat) (c : Word) : Statement (.wPayload i c) := fun h => by
  simp only [Instr.wellFormed] at h
  simp [encode, decode, decodeWire, wireRow, wireInstr, h]
theorem wWait : Statement .wWait := fun _ => rfl
theorem wCsumStart : Statement .wCsumStart := fun _ => rfl
theorem wCsumValue (h : Half) : Statement (.wCsumValue h) := fun _ => by
  simp [encode, decode, decodeWire, wireRow, wireInstr, zext16_upper]

end Codec
end Sys2Proof.Laws
end

