-- ==== Sys2Proof/Tests/Slice0.lean ====
section
/-! SUPPORT. Tests: what WellFormed refuses, one written-out word per instruction, one or two single steps per instruction
with the values of spec/95_test_vectors.md, and placing a table word. -/

namespace Sys2Proof.Tests

open Sys2Proof Sys2Proof.Machine

/-! ### The states the tests start from -/

/-- The image of 95_test_vectors.md P3: 192 zero bytes, then 0x00 to 0x0F. -/
def sampleImage : Memory :=
  [(193, 1#8), (194, 2#8), (195, 3#8), (196, 4#8), (197, 5#8), (198, 6#8), (199, 7#8), (200, 8#8)] ++
  [(201, 9#8), (202, 10#8), (203, 11#8), (204, 12#8), (205, 13#8), (206, 14#8), (207, 15#8)]

/-- After reset, with that image. -/
def boot : State := { State.reset with len := 208#32, img := sampleImage }

/-- After `SEQ_NEW 0`. -/
def session : State :=
  { boot with pp := some 0x81#8, idx := some 0#32, waitCnt := some 0, phase := .probing, result := some 0#32 }

/-- A running session at a micro-step up to K2, with the next answers of the peer. -/
def standing (u : MicroStep) (peer : List Xfer) : State := { session with upc := u, phase := phaseOf u, peer := peer }

/-- At a micro-step after K2 answered 0x73010000. -/
def keyed (u : MicroStep) (peer : List Xfer) : State :=
  { standing u peer with token := some 0x7301#16, faRaw := some 1#8, fa := some 0x10#8, seed0 := some 0xFFFF0181#32 }

/-- At a micro-step after K4 answered 0x00020000, with what the units hold. -/
def loaded (u : MicroStep) (i reg seed : Word) (peer : List Xfer) : State :=
  { keyed u peer with
    lenParam := some 0xFFD0#16, fb := some 2#8, idx := some i, crcReg := some reg, crcFin := some 0xFFFF0210#32,
    crcSt := .live, ksgSeed := some seed, ksgSt := .live }

/-- The next state of an outcome. -/
def after : Host.Outcome State Fault Refusal → Option State
  | .next s => some s
  | .fault _ => none
  | .refused _ => none

/-- The word of the last exchange of a state. -/
def lastSent (s : State) : Option Word := s.trace.getLast?.map (·.sent)

/-! ### WellFormed -/

/-- A payload word wholly inside an image space; the next number is outside every image. -/
theorem test_wellFormed_payload_last : (Instr.wPayload 1073741774 0#32).wellFormed = true := by decide
theorem test_wellFormed_payload_refused : (Instr.wPayload 1073741775 0#32).wellFormed = false := by decide

/-- The decoder refuses that number by name. -/
theorem test_decode_payload_refused :
    decode (.wire (.micro (.t 1073741775)) 0#32) = .error .payloadNumber := by decide

/-! ### Decoding: one word per instruction, its bits from 30_encoding.md R48, R49, R52 -/

theorem test_decode_crcInit :
    decode (.host ⟨0b0001#32, 0b00010000#32, 0b00000010#32⟩) = .ok (.crcInit 0x10#8 0x02#8) := by decide
theorem test_decode_crcStep : decode (.host ⟨0b0010#32, 0x80000000#32, 0#32⟩) = .ok (.crcStep 0x80000000#32) := by decide
theorem test_decode_crcDigest : decode (.host ⟨0b0011#32, 0#32, 0#32⟩) = .ok .crcDigest := by decide
theorem test_decode_ksgInit : decode (.host ⟨0b0100#32, 0xFFFF0181#32, 0#32⟩) = .ok (.ksgInit 0xFFFF0181#32) := by decide
theorem test_decode_ksgStep :
    decode (.host ⟨0b0101#32, 0x03020100#32, 0xC0#32⟩) = .ok (.ksgStep 0x03020100#32 0xC0#32) := by decide
theorem test_decode_seqNew : decode (.host ⟨0b1000#32, 0b11111111#32, 0#32⟩) = .ok (.seqNew 0xFF#8) := by decide
theorem test_decode_seqProbe : decode (.host ⟨0b1001#32, 0#32, 0#32⟩) = .ok .seqProbe := by decide
theorem test_decode_seqMultiboot : decode (.host ⟨0b1010#32, 0#32, 0#32⟩) = .ok .seqMultiboot := by decide
theorem test_decode_statusRead : decode (.host ⟨0b1110#32, 0#32, 0#32⟩) = .ok .statusRead := by decide
theorem test_decode_wProbe : decode (.wire .probe 0b0110001000000010#32) = .ok .wProbe := by decide
theorem test_decode_wHdrStart : decode (.wire (.micro .h0) 0b0110000100000000#32) = .ok .wHdrStart := by decide
theorem test_decode_wHdrWord :
    decode (.wire (.micro (.hdr 86)) 0b0100001001000001#32) = .ok (.wHdrWord 86 0x4241#16) := by decide
theorem test_decode_wHdrEnd : decode (.wire (.micro .h97) 0b0110001000000000#32) = .ok .wHdrEnd := by decide
theorem test_decode_wKeyProbe : decode (.wire (.micro .k0) 0b0110001000000010#32) = .ok .wKeyProbe := by decide
theorem test_decode_wKeyPrime :
    decode (.wire (.micro .k1) 0b0110001110010001#32) = .ok (.wKeyPrime 0x91#8) := by decide
theorem test_decode_wKeyFetch :
    decode (.wire (.micro .k2) 0b0110001110000001#32) = .ok (.wKeyFetch 0x81#8) := by decide
theorem test_decode_wCrcA : decode (.wire (.micro .k3) 0b0110010000010000#32) = .ok (.wCrcA 0x10#8) := by decide
theorem test_decode_wLen : decode (.wire (.micro .k4) 0b1111111111010000#32) = .ok (.wLen 0xFFD0#16) := by decide
theorem test_decode_wPayload :
    decode (.wire (.micro (.t 0)) 0x9D54409B#32) = .ok (.wPayload 0 0x9D54409B#32) := by decide
theorem test_decode_wWait : decode (.wire (.micro .v0) 0b0000000001100101#32) = .ok .wWait := by decide
theorem test_decode_wCsumStart : decode (.wire (.micro .v1) 0b0000000001100110#32) = .ok .wCsumStart := by decide
theorem test_decode_wCsumValue :
    decode (.wire (.micro .v2) 0b1110110010011000#32) = .ok (.wCsumValue 0xEC98#16) := by decide

/-- The reserved encodings of 95_test_vectors.md section 6, each by its name. -/
theorem test_decode_reserved :
    decode (.host ⟨0x0#32, 0#32, 0#32⟩) = .error .reservedOp ∧
    decode (.host ⟨0xF#32, 0#32, 0#32⟩) = .error .reservedOp ∧
    decode (.host ⟨0x11#32, 0#32, 0#32⟩) = .error .reservedCmdBits ∧
    decode (.host ⟨0x8#32, 0x100#32, 0#32⟩) = .error .reservedOperandBits ∧
    decode (.host ⟨0x9#32, 0#32, 1#32⟩) = .error .reservedOperandBits := by decide

/-- A word that is not its row's, and a word with a bit above a 16-bit exchange's value. -/
theorem test_decode_wrong_word :
    decode (.wire (.micro .k3) 0x6310#32) = .error .notItsWord ∧
    decode (.wire (.micro .k4) 0x10000#32) = .error .notItsWord ∧
    decode (.wire (.micro .done) 0#32) = .error .noWireWord := by decide

/-! ### The CRC unit (95_test_vectors.md sections 2.2 to 2.5, P1) -/

theorem test_crcInit_sets_unit :
    (after (exec (.crcInit 0x10#8 0x02#8) boot)).map (fun t => (t.crcReg, t.crcFin, t.crcSt, t.result)) =
      some (some 0xC387#32, some 0xFFFF0210#32, .live, some 0#32) := by decide

theorem test_crcStep_top_bit_last :
    (after (exec (.crcStep 0x80000000#32) { boot with crcReg := some 0xC387#32, crcSt := .live })).map
      (fun t => (t.crcReg, t.result)) = some (some 0x6DDB#32, some 0#32) := by decide +kernel

theorem test_crcStep_unset_faults :
    (after (exec (.crcStep 0#32) boot)).map (fun t => (t.fault, t.result)) = some (some .crcUnset, none) := by decide

theorem test_crcDigest_empty :
    (after (exec .crcDigest
      { boot with crcReg := some 0xC387#32, crcFin := some 0xFFFF0210#32, crcSt := .live })).map
      (fun t => (t.crcReg, t.crcSt, t.result)) = some (some 0x90EC#32, .digested, some 0x90EC#32) := by decide +kernel

theorem test_crcDigest_twice_faults :
    (after (exec .crcDigest { boot with crcReg := some 0xEC98#32, crcSt := .digested })).map
      (fun t => (t.crcReg, t.fault)) = some (some 0xEC98#32, some .crcDigested) := by decide

/-! ### The keystream unit (95_test_vectors.md section 3) -/

theorem test_ksgInit_sets_unit :
    (after (exec (.ksgInit 0xFFFF0181#32) boot)).map (fun t => (t.ksgSeed, t.ksgSt, t.result)) =
      some (some 0xFFFF0181#32, .live, some 0#32) := by decide

/-- The index wraps; the output is that of the updated seed. -/
theorem test_ksgStep_index_wraps :
    (after (exec (.ksgStep 0xFFFFFFFF#32 0xFF000000#32) { boot with ksgSeed := some 1#32, ksgSt := .live })).map
      (fun t => (t.ksgSeed, t.result)) = some (some 0x6F646574#32, some 0x2CBBB5A4#32) := by decide

theorem test_ksgStep_section8 :
    (after (exec (.ksgStep 0x03020100#32 0xC0#32) { boot with ksgSeed := some 0xFFFF0181#32, ksgSt := .live })).map
      (fun t => (t.ksgSeed, t.result)) = some (some 0x208991F4#32, some 0x9D54409B#32) := by decide

/-! ### The sequencer's host operations (95_test_vectors.md sections 5.1 and 5.7, P7) -/

theorem test_seqNew_opens :
    (after (exec (.seqNew 0x10#8) boot)).map (fun t => (t.pp, t.phase, t.result)) =
      some (some 0x91#8, .probing, some 0#32) := by decide

theorem test_seqNew_short_image_refused :
    (after (exec (.seqNew 0#8) { boot with len := 191#32 })).map (fun t => (t.phase, t.err, t.result, t.statusWord)) =
      some (.noSession, .configError, some 6#32, 0x60#32) := by decide

theorem test_seqProbe_ready :
    (after (exec .seqProbe { session with peer := [.ok 0x72020000#32] })).map
      (fun t => (t.ready, t.result, lastSent t, t.statusWord)) =
      some (true, some 1#32, some 0x00006202#32, 0x00000009#32) := by decide

theorem test_seqProbe_failure_surfaced :
    (after (exec .seqProbe { session with ready := true, peer := [.xfail] })).map
      (fun t => (t.ready, t.result, t.phase, t.err)) = some (false, some 0x40#32, .probing, .ok) := by decide

theorem test_seqMultiboot_starts :
    (after (exec .seqMultiboot session)).map (fun t => (t.upc, t.phase, t.result)) =
      some (.h0, .headerSent, none) := by decide

theorem test_seqMultiboot_no_session_faults :
    (after (exec .seqMultiboot boot)).map (fun t => (t.phase, t.fault)) = some (.noSession, some .wrongPhase) := by decide

/-- A TransportError in T(i) after a ready probe (95_test_vectors.md section 5.7). -/
theorem test_statusRead_transport_error :
    (after (exec .statusRead
      { loaded (.t 2) 2#32 0x08A0#32 0x02187388#32 [] with ready := true, phase := .failed, err := .transportError })).map
      (fun t => t.result) = some (some 0x0000054F#32) := by decide

theorem test_statusRead_reset : (after (exec .statusRead State.reset)).map (fun t => t.result) = some (some 0#32) := by decide

/-! ### The wire words (95_test_vectors.md sections 5.2 to 5.5, P3 to P6) -/

/-- 0x7202 in the low half is not ready. -/
theorem test_wProbe_low_half_ignored :
    (after (exec .wProbe { session with peer := [.ok 0x00007202#32] })).map (fun t => (t.ready, t.result)) =
      some (false, some 0#32) := by decide

theorem test_wProbe_outside_probing_refused : after (exec .wProbe boot) = none := by decide

theorem test_wHdrStart_goes_on :
    (after (exec .wHdrStart (standing .h0 [.ok 0#32]))).map (fun t => (lastSent t, t.upc, t.phase)) =
      some (some 0x00006100#32, .hdr 0, .headerSent) := by decide

/-- 42_sequencer.md R75: bytes 0x41, 0x42 at offsets 0xAC, 0xAD are H87's word. -/
theorem test_wHdrWord_little_endian :
    (after (exec (.wHdrWord 86 0x4241#16)
      { standing (.hdr 86) [.ok 0#32] with img := [(0xAC, 0x41#8), (0xAD, 0x42#8)] })).map
      (fun t => (lastSent t, t.upc)) = some (some 0x00004241#32, .hdr 87) := by decide

theorem test_wHdrWord_last :
    (after (exec (.wHdrWord 95 0#16) (standing (.hdr 95) [.ok 0#32]))).map (fun t => (t.upc, t.phase)) =
      some (.h97, .headerSent) := by decide

theorem test_wHdrEnd_goes_on :
    (after (exec .wHdrEnd (standing .h97 [.ok 0#32]))).map (fun t => (lastSent t, t.upc, t.phase)) =
      some (some 0x00006200#32, .k0, .keysExchanged) := by decide

theorem test_wKeyProbe_goes_on :
    (after (exec .wKeyProbe (standing .k0 [.ok 0#32]))).map (fun t => (lastSent t, t.upc)) =
      some (some 0x00006202#32, .k1) := by decide

theorem test_wKeyPrime_discards :
    (after (exec (.wKeyPrime 0x91#8) { standing .k1 [.ok 0x73010000#32] with pp := some 0x91#8 })).map
      (fun t => (lastSent t, t.upc, t.token)) = some (some 0x00006391#32, .k2, none) := by decide

theorem test_wKeyFetch_wraps :
    (after (exec (.wKeyFetch 0x81#8) (standing .k2 [.ok 0x73FF0000#32]))).map
      (fun t => (t.token, t.faRaw, t.seed0, t.fa, t.upc)) =
      some (some 0x73FF#16, some 0xFF#8, some 0xFFFFFF81#32, some 0x0E#8, .k3) := by decide

theorem test_wKeyFetch_bad_token :
    (after (exec (.wKeyFetch 0x81#8) (standing .k2 [.ok 0x72FF0000#32]))).map
      (fun t => (t.token, t.faRaw, t.phase, t.err, t.result)) =
      some (some 0x72FF#16, none, .failed, .failedHandshake, some 1#32) := by decide

theorem test_wCrcA_goes_on :
    (after (exec (.wCrcA 0x10#8) (keyed .k3 [.ok 0#32]))).map (fun t => (lastSent t, t.upc)) =
      some (some 0x00006410#32, .k4) := by decide

theorem test_wLen_constructs_units :
    (after (exec (.wLen 0xFFD0#16) (keyed .k4 [.ok 0x00020000#32]))).map
      (fun t => (lastSent t, t.fb, t.crcFin, t.ksgSeed, t.upc)) =
      some (some 0x0000FFD0#32, some 2#8, some 0xFFFF0210#32, some 0xFFFF0181#32, .t 0) := by decide +kernel

/-- K4 failing under SURFACE: `LENPARAM` is written, the units are not constructed (section 5.5). -/
theorem test_wLen_failure_surfaced :
    (after (exec (.wLen 0xFFD0#16) (keyed .k4 [.xfail]))).map (fun t => (t.lenParam, t.fb, t.crcSt, t.result)) =
      some (some 0xFFD0#16, none, .unset, some 4#32) := by decide

theorem test_wPayload_first_word :
    (after (exec (.wPayload 0 0x9D54409B#32) (loaded (.t 0) 0#32 0xC387#32 0xFFFF0181#32 [.ok 0x00C0FFFF#32]))).map
      (fun t => (t.crcReg, t.ksgSeed, t.idx, t.upc)) =
      some (some 0x4B02#32, some 0x208991F4#32, some 1#32, .t 1) := by decide +kernel

/-- A wrong acknowledgement: both units have moved, `I` has not. -/
theorem test_wPayload_bad_acknowledgement :
    (after (exec (.wPayload 0 0x9D54409B#32) (loaded (.t 0) 0#32 0xC387#32 0xFFFF0181#32 [.ok 0x00C10000#32]))).map
      (fun t => (t.crcReg, t.ksgSeed, t.idx, t.result)) =
      some (some 0x4B02#32, some 0x208991F4#32, some 0#32, some 2#32) := by decide +kernel

theorem test_wWait_again :
    (after (exec .wWait (loaded .v0 4#32 0xBF63#32 0xAFB08E19#32 [.ok 0x00740000#32]))).map
      (fun t => (lastSent t, t.waitCnt, t.upc, t.phase)) =
      some (some 0x00000065#32, some 1, .v0, .validating) := by decide

/-- At the bound the timeout is raised, with the count written (P6). -/
theorem test_wWait_times_out :
    (after (exec .wWait
      { loaded .v0 4#32 0xBF63#32 0xAFB08E19#32 [.ok 0x00740000#32] with waitCnt := some 2, waitLimit := .bounded 3 })).map
      (fun t => (t.waitCnt, t.phase, t.err, t.upc)) = some (some 3, .failed, .checksumTimeout, .v0) := by decide

theorem test_wCsumStart_goes_on :
    (after (exec .wCsumStart (loaded .v1 4#32 0xBF63#32 0xAFB08E19#32 [.ok 0#32]))).map
      (fun t => (lastSent t, t.upc, t.crcSt)) = some (some 0x00000066#32, .v2, .live) := by decide

theorem test_wCsumValue_completes :
    (after (exec (.wCsumValue 0xEC98#16) (loaded .v2 4#32 0xBF63#32 0xAFB08E19#32 [.ok 0xEC980000#32]))).map
      (fun t => (lastSent t, t.digest, t.phase, t.upc, t.result)) =
      some (some 0x0000EC98#32, some 0xEC98#16, .completed, .done, some 0#32) := by decide +kernel

theorem test_wCsumValue_wrong_echo :
    (after (exec (.wCsumValue 0xEC98#16) (loaded .v2 4#32 0xBF63#32 0xAFB08E19#32 [.ok 0xEC990000#32]))).map
      (fun t => (t.digest, t.crcSt, t.err, t.upc)) =
      some (some 0xEC98#16, .digested, .invalidChecksum, .v2) := by decide +kernel

/-! ### Placing a table word -/

/-- A host operation as 96 bits, and a wire word as 32. -/
theorem test_decodeTableWord :
    decodeTableWord 96 0x000000020000001000000001 = some (.crcInit 0x10#8 0x02#8) ∧
    decodeTableWord 32 0x00006381 = some (.wKeyPrime 0x81#8) ∧
    decodeTableWord 32 0x9D54409B = some (.wPayload 0 0x9D54409B#32) := by decide

/-- The very next step after reset runs the placed word. -/
theorem test_withFetchWord :
    (after (step (State.reset.withFetchWord 32 0xE))).map (fun t => t.result) = some (some 0#32) ∧
    (after (step ({ State.reset with peer := [.ok 0#32] }.withFetchWord 32 0x6410))).map lastSent =
      some (some 0x00006410#32) ∧
    (after (step ({ State.reset with peer := [.ok 0#32] }.withFetchWord 32 0x9D54409B))).map lastSent =
      some (some 0x9D54409B#32) := by decide +kernel

end Sys2Proof.Tests
end

