-- ==== Sys2Proof/Tests/Witnesses.lean ====
section
/-! SUPPORT. For every statement of Certificates/Slice0/Obligations.lean that has hypotheses, a concrete state and operands
that meet all of them, clause by clause, at a boundary value where a clause has a range. `witness_<Name>` is for
`Obligations.<Name>`. -/

namespace Sys2Proof.Tests

open Sys2Proof Sys2Proof.Machine

/-! ### States of the invariant -/

theorem inv_session : session.Inv where
  imageOk := by decide
  imageInside := by decide
  limitOk := by intro n h; cases h
  crc := .inl ⟨rfl, rfl, rfl⟩
  ksg := .inl ⟨rfl, rfl⟩
  phase := by
    show _ ∧ _
    exact ⟨rfl, rfl, ⟨by decide, ⟨0#8, rfl⟩, ⟨_, rfl⟩, ⟨_, rfl⟩⟩, rfl, rfl⟩
  running := by intro h; cases h

/-- A running session at H0. -/
theorem inv_start (peer : List Xfer) : (standing .h0 peer).Inv where
  imageOk := by show sampleImage.wf = true; decide
  imageInside := by show ∀ c ∈ sampleImage, c.1 < 208; decide
  limitOk := by intro n h; cases h
  crc := .inl ⟨rfl, rfl, rfl⟩
  ksg := .inl ⟨rfl, rfl⟩
  phase := by
    show _ ∧ _
    exact ⟨rfl, rfl, ⟨by show 192 ≤ 208; decide, ⟨0#8, rfl⟩, ⟨_, rfl⟩, ⟨_, rfl⟩⟩⟩
  running := by
    intro _
    show _ ∧ _
    exact ⟨rfl, rfl⟩

theorem keyed_sample (u : MicroStep) (i reg seed : Word) (peer : List Xfer) : (loaded u i reg seed peer).keyed :=
  ⟨0x7301#16, 0x81#8, rfl, rfl, rfl, rfl, rfl, rfl⟩

/-- A running session at T(0). -/
theorem inv_payload (peer : List Xfer) : (loaded (.t 0) 0#32 0xC387#32 0xFFFF0181#32 peer).Inv where
  imageOk := by show sampleImage.wf = true; decide
  imageInside := by show ∀ c ∈ sampleImage, c.1 < 208; decide
  limitOk := by intro n h; cases h
  crc := .inr ⟨by show CrcSt.live ≠ .unset; decide, ⟨_, rfl, by decide⟩, 0x10#8, 2#8, rfl⟩
  ksg := .inr ⟨rfl, _, rfl⟩
  phase := by
    show _ ∧ _
    exact ⟨rfl, rfl, ⟨by show 192 ≤ 208; decide, ⟨0#8, rfl⟩, ⟨_, rfl⟩, ⟨_, rfl⟩⟩⟩
  running := by
    intro _
    show _ ∧ _
    exact ⟨rfl, rfl, keyed_sample _ _ _ _ _, by show 0 < boot.payloadWords; decide, rfl, rfl, rfl, ⟨_, rfl, rfl⟩, 0x10#8, 2#8, rfl, rfl, rfl⟩

/-- A completed session (95_test_vectors.md P3), with as many exchanges in its trace as it made. -/
def done : State :=
  { loaded .done 4#32 0xEC98#32 0xAFB08E19#32 [] with
    crcSt := .digested, digest := some 0xEC98#16, waitCnt := some 1,
    trace := List.replicate 110 ⟨.micro .h0, 0#32, .ok 0#32⟩ }

theorem inv_done : done.Inv where
  imageOk := by show sampleImage.wf = true; decide
  imageInside := by show ∀ c ∈ sampleImage, c.1 < 208; decide
  limitOk := by intro n h; cases h
  crc := .inr ⟨by show CrcSt.digested ≠ .unset; decide, ⟨_, rfl, by decide⟩, 0x10#8, 2#8, rfl⟩
  ksg := .inr ⟨rfl, _, rfl⟩
  phase := by
    show _ ∧ _
    exact ⟨rfl, rfl, ⟨by show 192 ≤ 208; decide, ⟨0#8, rfl⟩, ⟨_, rfl⟩, ⟨_, rfl⟩⟩⟩
  running := by intro h; cases h

/-! ### What a step runs -/

/-- A state whose port holds one operation. -/
def issuing (s : State) (cmd a b : Word) : State := { s with port := [.op ⟨cmd, a, b⟩] }

theorem takes_issuing {s : State} (h : s.phase.running = false) (cmd a b : Word) :
    (issuing s cmd a b).takes ⟨cmd, a, b⟩ [] := ⟨h, rfl⟩

theorem witness_ReservedEncodingsRefused :
    (issuing boot 0x6#32 0#32 0#32).takes ⟨0x6#32, 0#32, 0#32⟩ [] ∧ ¬ spellsOperation ⟨0x6#32, 0#32, 0#32⟩ ∧
    (issuing boot 0x11#32 0#32 0#32).takes ⟨0x11#32, 0#32, 0#32⟩ [] ∧ ¬ spellsOperation ⟨0x11#32, 0#32, 0#32⟩ ∧
    (issuing boot 0x8#32 0x100#32 0#32).takes ⟨0x8#32, 0x100#32, 0#32⟩ [] ∧
    ¬ spellsOperation ⟨0x8#32, 0x100#32, 0#32⟩ := by
  refine ⟨takes_issuing rfl _ _ _, ?_, takes_issuing rfl _ _ _, ?_, takes_issuing rfl _ _ _, ?_⟩ <;>
    simp [spellsOperation]

theorem witness_StepRunsPortOperation :
    (issuing boot 0xE#32 0#32 0#32).takes ⟨0xE#32, 0#32, 0#32⟩ [] ∧
    decode (.host ⟨0xE#32, 0#32, 0#32⟩) = .ok .statusRead := ⟨takes_issuing rfl _ _ _, by decide⟩

theorem witness_StepRunsWireWord :
    (standing .h0 []).phase.running = true ∧
    (standing .h0 []).prepare (standing .h0 []).upc = .ok (0x6100#32, standing .h0 []) ∧
    decode (.wire (.micro (standing .h0 []).upc) 0x6100#32) = .ok .wHdrStart := ⟨rfl, rfl, by decide⟩

theorem witness_IdleHoldsState : boot.phase.running = false ∧ boot.port = [] := ⟨rfl, rfl⟩

theorem witness_ResetEventClearsRegisters :
    session.phase.running = false ∧ { session with port := [.reset] }.port = .reset :: [] := ⟨rfl, rfl⟩

/-! ### The units -/

/-- A CRC unit in LIVE. -/
def crcLive : State := { boot with crcReg := some 0xFFFF#32, crcFin := some 0xFFFF0210#32, crcSt := .live }

theorem witness_CrcInitConstructsUnit :
    (issuing boot 0x1#32 0x100#32 0#32).takes ⟨0x1#32, 0x100#32, 0#32⟩ [] ∧
    ¬((0x100#32).toNat < 256 ∧ (0#32).toNat < 256) ∧
    (issuing boot 0x1#32 0#32 0x100#32).takes ⟨0x1#32, 0#32, 0x100#32⟩ [] ∧
    ¬((0#32).toNat < 256 ∧ (0x100#32).toNat < 256) :=
  ⟨takes_issuing rfl _ _ _, by decide, takes_issuing rfl _ _ _, by decide⟩

theorem witness_CrcStepRunsThirtyTwoBitSteps :
    (crcLive.crcSt = .live ∧ crcLive.crcReg = some 0xFFFF#32) ∧ boot.crcSt = .unset ∧
    { crcLive with crcSt := .digested }.crcSt = .digested ∧
    (issuing crcLive 0x2#32 5#32 1#32).takes ⟨0x2#32, 5#32, 1#32⟩ [] ∧ 1#32 ≠ 0#32 :=
  ⟨⟨rfl, rfl⟩, rfl, rfl, takes_issuing rfl _ _ _, by decide⟩

theorem witness_CrcDigestStepsFinalizeOnce :
    (crcLive.crcSt = .live ∧ crcLive.crcReg = some 0xFFFF#32 ∧ crcLive.crcFin = some 0xFFFF0210#32) ∧
    boot.crcSt = .unset ∧ { crcLive with crcSt := .digested }.crcSt = .digested ∧
    (issuing crcLive 0x3#32 0#32 1#32).takes ⟨0x3#32, 0#32, 1#32⟩ [] ∧ ¬(0#32 = 0#32 ∧ 1#32 = 0#32) :=
  ⟨⟨rfl, rfl, rfl⟩, rfl, rfl, takes_issuing rfl _ _ _, by decide⟩

theorem witness_CrcStepKeepsSixteenBits : (0xFFFF#32 : Word).toNat < 2 ^ 16 := by decide

theorem witness_CrcStepIsInjective :
    (0xFFFF#32 : Word).toNat < 2 ^ 16 ∧ crcWord 0xFFFF#32 0#32 = crcWord 0xFFFF#32 0#32 := ⟨by decide, rfl⟩

/-- A keystream unit in LIVE. -/
def ksgLive : State := { boot with ksgSeed := some 0xFFFF0181#32, ksgSt := .live }

theorem witness_KsgInitStoresSeed :
    (issuing boot 0x4#32 5#32 1#32).takes ⟨0x4#32, 5#32, 1#32⟩ [] ∧ 1#32 ≠ 0#32 :=
  ⟨takes_issuing rfl _ _ _, by decide⟩

theorem witness_KsgStepAnswersFromUpdatedSeed :
    (ksgLive.ksgSt = .live ∧ ksgLive.ksgSeed = some 0xFFFF0181#32) ∧ boot.ksgSt = .unset := ⟨⟨rfl, rfl⟩, rfl⟩

theorem witness_KsgRoundTripRecoversValue :
    ksgLive.ksgSt = .live ∧ ksgLive.ksgSeed ≠ none ∧
    ∃ t1 : State, exec (.ksgStep 0x03020100#32 0xC0#32) ksgLive = .next t1 ∧ t1.result = some 0x9D54409B#32 :=
  ⟨rfl, by decide, _, rfl, by decide⟩

theorem witness_KsgSeedDependsOnCountOnly :
    ksgLive.phase.running = false ∧ ksgLive.ksgSt = .live ∧ ksgLive.ksgSeed = some 0xFFFF0181#32 ∧
    { ksgLive with port := [.op ⟨0x5#32, 1#32, 2#32⟩, .reset] }.port =
      ([(1#32, 2#32)] : List (Word × Word)).map (fun p => .op ⟨0x5#32, p.1, p.2⟩) ++ [.reset] := ⟨rfl, rfl, rfl, rfl⟩

/-! ### The sequencer's host operations -/

theorem witness_SeqNewOpensOrRefusesSession :
    192 ≤ { boot with len := 192#32 }.len.toNat ∧ { boot with len := 191#32 }.len.toNat < 192 ∧
    (issuing boot 0x8#32 0x100#32 0#32).takes ⟨0x8#32, 0x100#32, 0#32⟩ [] ∧
    ¬((0x100#32).toNat < 256 ∧ 0#32 = 0#32) :=
  ⟨by decide, by decide, takes_issuing rfl _ _ _, by decide⟩

theorem witness_ProbeReadsReadiness :
    (session.phase = .probing ∧ (Instr.wProbe = .seqProbe ∨ Instr.wProbe = .wProbe)) ∧ boot.phase ≠ .probing ∧
    (issuing session 0x9#32 0#32 1#32).takes ⟨0x9#32, 0#32, 1#32⟩ [] ∧ ¬(0#32 = 0#32 ∧ 1#32 = 0#32) :=
  ⟨⟨rfl, .inr rfl⟩, by decide, takes_issuing rfl _ _ _, by decide⟩

theorem witness_MultibootStartsAtHeader : session.phase = .probing ∧ boot.phase ≠ .probing := ⟨rfl, by decide⟩

theorem witness_running_step :
    ∃ s' : State, (standing .h0 [.ok 0#32]).Inv ∧ (standing .h0 [.ok 0#32]).phase.running = true ∧
      step (standing .h0 [.ok 0#32]) = .next s' := ⟨_, inv_start _, rfl, rfl⟩

/-- A step of a running session of the invariant: for the statements whose hypotheses are just these. -/
theorem witness_MultibootReturnsErrorCode :
    ∃ s' : State, (standing .h0 [.ok 0#32]).Inv ∧ (standing .h0 [.ok 0#32]).phase.running = true ∧
      step (standing .h0 [.ok 0#32]) = .next s' := witness_running_step

/-! ### Exchanges -/

theorem witness_ExchangeTakesOneAnswer :
    (standing .h0 [.ok 7#32, .xfail]).peer = .ok 7#32 :: [.xfail] ∧ (standing .h0 []).peer = [] ∧
    (standing .h0 [.ok 7#32, .xfail]).nextAnswer = .ok 7#32 ∧ (standing .h0 [.xfail]).nextAnswer = .xfail :=
  ⟨rfl, rfl, rfl, rfl⟩

theorem witness_FailurePolicySurfacesOrZeroes :
    ((standing .h0 [.xfail]).nextAnswer = .xfail ∧ (standing .h0 [.xfail]).failPolicy = .surface) ∧
    ({ standing .h0 [.xfail] with failPolicy := .asZero }.nextAnswer = .xfail ∧
      { standing .h0 [.xfail] with failPolicy := .asZero }.failPolicy = .asZero) ∧
    (standing .h0 [.ok 7#32]).nextAnswer = .ok 7#32 := ⟨⟨rfl, rfl⟩, ⟨rfl, rfl⟩, rfl⟩

theorem witness_MicroStepsSendTheirWords :
    (standing .k1 []).pp = some 0x81#8 ∧ (keyed .k3 []).fa = some 0x10#8 := ⟨rfl, rfl⟩

theorem witness_RunningSequencerFormsItsWord :
    (standing .h0 []).Inv ∧ (standing .h0 []).phase.running = true := ⟨inv_start _, rfl⟩

theorem witness_WireWordOnlyWhereItIsSent :
    encode .wHdrStart = .wire (.micro .h0) 0x6100#32 ∧
    (boot.phase.running = false ∧ (standing .h97 []).upc ≠ .h0) ∧
    encode (.wKeyPrime 0#8) = .wire (.micro .k1) 0x6300#32 ∧
    (standing .k1 []).prepare .k1 = .ok (0x6381#32, standing .k1 []) ∧ 0x6381#32 ≠ 0x6300#32 ∧
    boot.phase ≠ .probing := ⟨rfl, ⟨rfl, by decide⟩, rfl, rfl, by decide, by decide⟩

/-! ### The micro-steps -/

theorem witness_FixedWordMicroSteps :
    ((standing .h0 []).phase.running = true ∧ (standing .h0 []).upc = .h0) ∧
    ((standing .h97 []).phase.running = true ∧ (standing .h97 []).upc = .h97) ∧
    ((standing .k0 []).phase.running = true ∧ (standing .k0 []).upc = .k0) ∧
    ((loaded .v1 4#32 0xBF63#32 0xAFB08E19#32 []).phase.running = true ∧
      (loaded .v1 4#32 0xBF63#32 0xAFB08E19#32 []).upc = .v1) :=
  ⟨⟨rfl, rfl⟩, ⟨rfl, rfl⟩, ⟨rfl, rfl⟩, rfl, rfl⟩

/-- At the last header word of the shortest image. -/
def lastHeader : State := { standing (.hdr 95) [] with len := 192#32, img := [(190, 0x41#8), (191, 0x42#8)] }

theorem witness_HeaderWordsSentInOrder :
    lastHeader.phase.running = true ∧ lastHeader.upc = .hdr 95 ∧
    2 * (95 : Fin 96).val + 1 < lastHeader.len.toNat ∧
    (0x4241#16 : Half) = (lastHeader.img.read (2 * (95 : Fin 96).val)).setWidth 16 |||
      (lastHeader.img.read (2 * (95 : Fin 96).val + 1)).setWidth 16 <<< 8 :=
  ⟨rfl, rfl, by decide, by decide⟩

theorem witness_ParameterWordMicroSteps :
    ((standing .k1 []).phase.running = true ∧ (standing .k1 []).upc = .k1 ∧ (standing .k1 []).pp = some 0x81#8) ∧
    ((keyed .k3 []).phase.running = true ∧ (keyed .k3 []).upc = .k3 ∧ (keyed .k3 []).fa = some 0x10#8) :=
  ⟨⟨rfl, rfl, rfl⟩, rfl, rfl, rfl⟩

theorem witness_KeyFetchChecksToken :
    (standing .k2 []).phase.running = true ∧ (standing .k2 []).upc = .k2 ∧ (standing .k2 []).pp = some 0x81#8 :=
  ⟨rfl, rfl, rfl⟩

/-- With four payload words, and with none. -/
theorem witness_LengthExchangeConstructsUnits :
    (keyed .k4 []).phase.running = true ∧ (keyed .k4 []).upc = .k4 ∧ (keyed .k4 []).fa = some 0x10#8 ∧
    (keyed .k4 []).seed0 = some 0xFFFF0181#32 ∧
    (0xFFD0#16 : Half) = BitVec.ofInt 16 (((keyed .k4 []).payloadWords : Int) - 0x34) ∧
    { keyed .k4 [] with len := 192#32 }.phase.running = true ∧ { keyed .k4 [] with len := 192#32 }.upc = .k4 ∧
    { keyed .k4 [] with len := 192#32 }.fa = some 0x10#8 ∧
    { keyed .k4 [] with len := 192#32 }.seed0 = some 0xFFFF0181#32 ∧
    (0xFFCC#16 : Half) = BitVec.ofInt 16 (({ keyed .k4 [] with len := 192#32 }.payloadWords : Int) - 0x34) :=
  ⟨rfl, rfl, rfl, rfl, by decide, rfl, rfl, rfl, rfl, by decide⟩

/-- The first payload word of 95_test_vectors.md P3; the last one is still wholly inside the image. -/
theorem witness_PayloadWordSteppedThenSent :
    (loaded (.t 0) 0#32 0xC387#32 0xFFFF0181#32 []).phase.running = true ∧
    (loaded (.t 0) 0#32 0xC387#32 0xFFFF0181#32 []).upc = .t 0 ∧
    (loaded (.t 0) 0#32 0xC387#32 0xFFFF0181#32 []).crcSt = .live ∧
    (loaded (.t 0) 0#32 0xC387#32 0xFFFF0181#32 []).crcReg = some 0xC387#32 ∧
    (loaded (.t 0) 0#32 0xC387#32 0xFFFF0181#32 []).ksgSt = .live ∧
    (loaded (.t 0) 0#32 0xC387#32 0xFFFF0181#32 []).ksgSeed = some 0xFFFF0181#32 ∧
    192 + 4 * 0 + 3 < (loaded (.t 0) 0#32 0xC387#32 0xFFFF0181#32 []).len.toNat ∧
    192 + 4 * 3 + 3 < (loaded (.t 3) 3#32 0x08A0#32 0x02187388#32 []).len.toNat ∧
    (0x03020100#32 : Word) =
      (sampleImage.read (192 + 4 * 0)).setWidth 32 ||| (sampleImage.read (192 + 4 * 0 + 1)).setWidth 32 <<< 8 |||
        (sampleImage.read (192 + 4 * 0 + 2)).setWidth 32 <<< 16 ||| (sampleImage.read (192 + 4 * 0 + 3)).setWidth 32 <<< 24 ∧
    (0x9D54409B#32 : Word) = (0xFFFF0181#32 * 0x6F646573#32 + 1#32) ^^^ 0x03020100#32 ^^^
      (0xFE000000#32 - BitVec.ofNat 32 (4 * 0 + 192)) ^^^ 0x43202F2F#32 :=
  ⟨rfl, rfl, rfl, rfl, rfl, rfl, by decide, by decide, by decide, by decide⟩

/-- The first wait, under a bound. -/
def waiting (l : WaitLimit) : State := { loaded .v0 4#32 0xBF63#32 0xAFB08E19#32 [] with waitLimit := l }

/-- At the bound, one before it, and with no bound. -/
theorem witness_WaitExitsTimesOutOrRepeats :
    (∀ l, (waiting l).phase.running = true ∧ (waiting l).upc = .v0 ∧ (waiting l).waitCnt = some 0) ∧
    (true = true ↔ ∃ m : Nat, (waiting (.bounded 1)).waitLimit = .bounded m ∧ m ≤ 0 + 1) ∧
    (false = true ↔ ∃ m : Nat, (waiting (.bounded 2)).waitLimit = .bounded m ∧ m ≤ 0 + 1) ∧
    (false = true ↔ ∃ m : Nat, (waiting .unbounded).waitLimit = .bounded m ∧ m ≤ 0 + 1) := by
  refine ⟨fun l => ⟨rfl, rfl, rfl⟩, ⟨fun _ => ⟨1, rfl, by decide⟩, fun _ => rfl⟩, ⟨(by intro h; cases h), ?_⟩,
    ⟨(by intro h; cases h), ?_⟩⟩
  · rintro ⟨m, h, hm⟩
    cases h
    omega
  · rintro ⟨m, h, -⟩
    cases h

theorem witness_DigestSentAndEchoed :
    (loaded .v2 4#32 0xBF63#32 0xAFB08E19#32 []).phase.running = true ∧
    (loaded .v2 4#32 0xBF63#32 0xAFB08E19#32 []).upc = .v2 ∧
    (loaded .v2 4#32 0xBF63#32 0xAFB08E19#32 []).crcSt = .live ∧
    (loaded .v2 4#32 0xBF63#32 0xAFB08E19#32 []).crcReg = some 0xBF63#32 ∧
    (loaded .v2 4#32 0xBF63#32 0xAFB08E19#32 []).crcFin = some 0xFFFF0210#32 ∧
    (0xEC98#16 : Half) = (crcWord 0xBF63#32 0xFFFF0210#32).extractLsb' 0 16 :=
  ⟨rfl, rfl, rfl, rfl, rfl, by decide +kernel⟩

theorem witness_EveryMicroStepExchangesOnce :
    ∃ s' : State, (standing .h0 [.ok 0#32]).Inv ∧ (standing .h0 [.ok 0#32]).phase.running = true ∧
      step (standing .h0 [.ok 0#32]) = .next s' := witness_running_step

theorem witness_SurfacedFailureEndsSession :
    (standing .h0 [.xfail]).Inv ∧ (standing .h0 [.xfail]).phase.running = true ∧
    (standing .h0 [.xfail]).nextAnswer = .xfail ∧ (standing .h0 [.xfail]).failPolicy = .surface :=
  ⟨inv_start _, rfl, rfl, rfl⟩

/-! ### The image -/

theorem witness_ImageGeometry : 192 ≤ { boot with len := 192#32 }.len.toNat := by decide

/-- The last offset below `LEN` and the first one outside, for each width. -/
theorem witness_ImageReadsLittleEndian :
    step boot = .next boot ∧ 207 < boot.len.toNat ∧ boot.len.toNat ≤ 208 ∧ 206 + 1 < boot.len.toNat ∧
    204 + 3 < boot.len.toNat ∧ boot.len.toNat ≤ 207 + 1 ∧ boot.len.toNat ≤ 205 + 3 :=
  ⟨rfl, by decide, by decide, by decide, by decide, by decide, by decide⟩

theorem witness_LaunchInputsConstant : step boot = .next boot := rfl

/-- An image of 200 bytes whose tail is not blank, against one whose tail is. -/
def tailed : State := { session with len := 200#32, img := [(199, 9#8)] }

theorem witness_ImageTailNeverRead :
    tailed.Inv ∧ (∀ a, a < tailed.alignedLen → Memory.read [] a = tailed.img.read a) ∧ step tailed = .next tailed := by
  refine ⟨⟨by decide, by decide, (by intro n h; cases h), .inl ⟨rfl, rfl, rfl⟩, .inl ⟨rfl, rfl⟩, ?_, (by intro h; cases h)⟩,
    ?_, rfl⟩
  · show _ ∧ _
    exact ⟨rfl, rfl, ⟨by decide, ⟨0#8, rfl⟩, ⟨_, rfl⟩, ⟨_, rfl⟩⟩, rfl, rfl⟩
  · intro a h
    have : a < 192 := h
    simp [tailed, Memory.read, show ¬(199 = a) by omega]

theorem witness_ResponseLowHalfUnread :
    ∃ s1 s2 : State, (loaded (.t 0) 0#32 0xC387#32 0xFFFF0181#32 []).Inv ∧
      (loaded (.t 0) 0#32 0xC387#32 0xFFFF0181#32 []).phase.running = true ∧
      (0x00C00000#32 : Word).extractLsb' 16 16 = (0x00C0FFFF#32 : Word).extractLsb' 16 16 ∧
      step { loaded (.t 0) 0#32 0xC387#32 0xFFFF0181#32 [] with peer := .ok 0x00C00000#32 :: [] } = .next s1 ∧
      step { loaded (.t 0) 0#32 0xC387#32 0xFFFF0181#32 [] with peer := .ok 0x00C0FFFF#32 :: [] } = .next s2 :=
  ⟨_, _, inv_payload _, rfl, by decide, rfl, rfl⟩

/-! ### Faults -/

theorem inv_issuing {s : State} (h : s.Inv) (cmd a b : Word) : (issuing s cmd a b).Inv :=
  ⟨h.imageOk, h.imageInside, h.limitOk, h.crc, h.ksg, h.phase, h.running⟩

theorem witness_ModelSlipsUnreachable :
    ∃ s' : State, (issuing session 0x2#32 0#32 0#32).Inv ∧ (issuing session 0x2#32 0#32 0#32).fault = none ∧
      step (issuing session 0x2#32 0#32 0#32) = .next s' := ⟨_, inv_issuing inv_session _ _ _, rfl, rfl⟩

theorem witness_ModelFaultRecordedForGood :
    (∃ s' : State, (issuing session 0x2#32 0#32 0#32).Inv ∧ (issuing session 0x2#32 0#32 0#32).fault = none ∧
      step (issuing session 0x2#32 0#32 0#32) = .next s' ∧ s'.fault = some .crcUnset) ∧
    ∃ s' : State, { boot with port := [.reset], fault := some .crcUnset }.fault = some .crcUnset ∧
      step { boot with port := [.reset], fault := some .crcUnset } = .next s' :=
  ⟨⟨_, inv_issuing inv_session _ _ _, rfl, rfl, rfl⟩, _, rfl, rfl⟩

theorem witness_ReadingNoValueFaults :
    ({ boot with crcSt := .live }.crcSt = .live ∧ { boot with crcSt := .live }.crcReg = none) ∧
    ({ boot with ksgSt := .live }.ksgSt = .live ∧ { boot with ksgSt := .live }.ksgSeed = none) ∧
    { standing .k1 [] with pp := none }.phase.running = true ∧ { standing .k1 [] with pp := none }.upc = .k1 ∧
    { standing .k1 [] with pp := none }.pp = none := ⟨⟨rfl, rfl⟩, ⟨rfl, rfl⟩, rfl, rfl, rfl⟩

/-! ### The whole machine -/

theorem witness_EveryStepKeepsInvariant : ∃ s' : State, session.Inv ∧ step session = .next s' := ⟨_, inv_session, rfl⟩

theorem witness_PhaseMovesForward :
    ∃ s' : State, (standing .h0 [.ok 0#32]).Inv ∧ (standing .h0 [.ok 0#32]).phase.running = true ∧
      step (standing .h0 [.ok 0#32]) = .next s' := witness_running_step

theorem witness_EndedSessionStaysEnded :
    ∃ s' : State, (issuing done 0xA#32 0#32 0#32).phase = .completed ∧ step (issuing done 0xA#32 0#32 0#32) = .next s' ∧
      (∀ rest, (issuing done 0xA#32 0#32 0#32).port ≠ .reset :: rest) ∧
      ∀ o rest, (issuing done 0xA#32 0#32 0#32).port = .op o :: rest → o.cmd ≠ 0x8#32 := by
  refine ⟨_, rfl, rfl, (by intro rest h; cases h), fun o rest h => ?_⟩
  cases h
  decide

theorem witness_PortWaitsWhileRunning :
    ∃ s' : State, (standing .h0 [.ok 0#32]).phase.running = true ∧ step (standing .h0 [.ok 0#32]) = .next s' :=
  ⟨_, rfl, rfl⟩

theorem witness_ExchangeCountKept :
    ∃ s' : State, (standing .h0 [.ok 0#32]).Inv ∧ (standing .h0 [.ok 0#32]).countOk ∧
      step (standing .h0 [.ok 0#32]) = .next s' := ⟨_, inv_start _, rfl, rfl⟩

/-- A session that failed at `u`, with as many exchanges in its trace as it made. -/
def failedAt (u : MicroStep) (e : ErrKind) (exchanges : Nat) : State :=
  { standing u [] with
    phase := .failed, err := e, trace := List.replicate exchanges ⟨.micro .h0, 0#32, .ok 0#32⟩ }

theorem witness_SessionExchangeTotals :
    (done.Inv ∧ done.countOk ∧ done.phase = .completed ∧ done.waitCnt = some 1) ∧
    ((failedAt .k2 .failedHandshake 101).countOk ∧ (failedAt .k2 .failedHandshake 101).phase = .failed ∧
      (failedAt .k2 .failedHandshake 101).err = .failedHandshake ∧ (failedAt .k2 .failedHandshake 101).upc = .k2) ∧
    (failedAt (.t 0) .transmissionError 104).countOk ∧ (failedAt (.t 0) .transmissionError 104).phase = .failed ∧
    (failedAt (.t 0) .transmissionError 104).err = .transmissionError ∧
    (failedAt (.t 0) .transmissionError 104).upc = .t 0 := by
  refine ⟨⟨inv_done, ?_, rfl, rfl⟩, ⟨?_, rfl, rfl, rfl⟩, ?_, rfl, rfl, rfl⟩ <;>
    simp only [State.countOk] <;> decide +kernel

/-- A bound of one wait, at the start of the micro-program. -/
theorem witness_BoundedSessionEnds :
    { standing .h0 [] with waitLimit := .bounded 1 }.Inv ∧
    { standing .h0 [] with waitLimit := .bounded 1 }.phase.running = true ∧
    { standing .h0 [] with waitLimit := .bounded 1 }.waitLimit = .bounded 1 := by
  have h := inv_start []
  exact ⟨⟨h.imageOk, h.imageInside, (by intro n hn; cases hn; decide), h.crc, h.ksg, h.phase, h.running⟩, rfl, rfl⟩

theorem witness_HonestSessionCompletes :
    ∃ s : State, s.Inv ∧ s.phase = .probing ∧ s.port = .op ⟨0xA#32, 0#32, 0#32⟩ :: [] ∧
      s.peer = s.honestAnswers 1#8 2#8 ++ [] := by
  have h := inv_session
  exact ⟨{ session with port := [.op ⟨0xA#32, 0#32, 0#32⟩], peer := session.honestAnswers 1#8 2#8 ++ [] },
    ⟨h.imageOk, h.imageInside, h.limitOk, h.crc, h.ksg, h.phase, h.running⟩, rfl, rfl, rfl⟩

end Sys2Proof.Tests
end

/-! PROOFS. Image reads, and that no step changes a launch input (the image among them). -/

namespace Sys2Proof.Machine

section ImageReads

variable {s : State}

/-! ### Reading the image (20_memory.md R8) -/

/-- A byte read says whether the rest of the read goes on. -/
theorem State.imgRead8_bind {α : Type} (a : Nat) (f : Byte → Except Fault α) :
    (s.imgRead8 a >>= f) = if a < s.len.toNat then f (s.img.read a) else .error .imgBounds := by
  unfold State.imgRead8
  split <;> rfl

theorem State.imgRead8_outside {a : Nat} (h : s.len.toNat ≤ a) : s.imgRead8 a = .error .imgBounds :=
  if_neg h.not_gt

/-- A 16-bit read faults as soon as its last byte lies outside, whichever of its reads is the first to do so. -/
theorem State.memRead2_outside {a : Nat} (h : s.len.toNat ≤ a + 1) : s.memRead2 a = .error .imgBounds := by
  simp only [State.memRead2, State.imgRead8_bind, if_neg h.not_gt, ite_self]

/-- A 32-bit read faults as soon as its last byte lies outside, whichever of its reads is the first to do so. -/
theorem State.memRead4_outside {a : Nat} (h : s.len.toNat ≤ a + 3) : s.memRead4 a = .error .imgBounds := by
  simp only [State.memRead4, State.imgRead8_bind, if_neg h.not_gt, ite_self]

/-- The bytes of a little-endian 16-bit value: outside its own eight bits a shifted byte has no bit set. -/
theorem bytes_of_half {h : Half} {b0 b1 : Byte} (hh : h = b0.setWidth 16 ||| b1.setWidth 16 <<< 8) :
    h.extractLsb' 0 8 = b0 ∧ h.extractLsb' 8 8 = b1 := by
  subst hh
  constructor <;> ext i hi <;>
    simp only [BitVec.getElem_extractLsb', BitVec.getLsbD_or, BitVec.getLsbD_shiftLeft, BitVec.getLsbD_setWidth] <;> grind

/-- The bytes of a little-endian 32-bit value: outside its own eight bits a shifted byte has no bit set. -/
theorem bytes_of_word {w : Word} {b0 b1 b2 b3 : Byte}
    (hw : w = b0.setWidth 32 ||| b1.setWidth 32 <<< 8 ||| b2.setWidth 32 <<< 16 ||| b3.setWidth 32 <<< 24) :
    w.extractLsb' 0 8 = b0 ∧ w.extractLsb' 8 8 = b1 ∧ w.extractLsb' 16 8 = b2 ∧ w.extractLsb' 24 8 = b3 := by
  subst hw
  refine ⟨?_, ?_, ?_, ?_⟩ <;> ext i hi <;>
    simp only [BitVec.getElem_extractLsb', BitVec.getLsbD_or, BitVec.getLsbD_shiftLeft, BitVec.getLsbD_setWidth] <;> grind

end ImageReads

section LaunchInputs

variable {s t s' : State}

/-! ### The launch inputs (20_memory.md R37, R46) -/

theorem State.sameLaunch_refl (s : State) : s.sameLaunch s := ⟨rfl, rfl, rfl, rfl⟩

theorem State.sameLaunch.trans (h : s.sameLaunch t) (h' : t.sameLaunch s') : s.sameLaunch s' := by
  obtain ⟨hlen, himg, hwait, hfail⟩ := h
  obtain ⟨hlen', himg', hwait', hfail'⟩ := h'
  exact ⟨hlen'.trans hlen, himg'.trans himg, hwait'.trans hwait, hfail'.trans hfail⟩

/-- A computation in sequence succeeds when both parts do. -/
theorem bind_ok {α β : Type} {x : Except Fault α} {f : α → Except Fault β} {b : β} :
    (x >>= f) = .ok b ↔ ∃ a, x = .ok a ∧ f a = .ok b := by
  cases x <;> simp [bind, Except.bind]

/-- What a micro-step does before its exchange leaves the launch inputs. -/
theorem State.prepare_sameLaunch {u : MicroStep} {w : Word} (h : s.prepare u = .ok (w, t)) : s.sameLaunch t := by
  cases u with
  | h0 | h97 | k0 | k4 | v0 | v1 => cases h; exact ⟨rfl, rfl, rfl, rfl⟩
  | hdr | k1 | k2 | k3 =>
    obtain ⟨_, _, h⟩ := bind_ok.1 h
    cases h
    exact s.sameLaunch_refl
  | t i =>
    obtain ⟨_, _, h⟩ := bind_ok.1 h
    obtain ⟨t1, hcrc, hksg⟩ := bind_ok.1 h
    obtain ⟨_, _, _, rfl⟩ := State.crcStep_ok.1 hcrc
    obtain ⟨_, _, _, hp⟩ := State.ksgStep_ok.1 hksg
    cases hp
    exact ⟨rfl, rfl, rfl, rfl⟩
  | v2 =>
    obtain ⟨p, hp, h⟩ := bind_ok.1 h
    obtain ⟨_, _, _, _, _, rfl⟩ := State.crcDigest_ok.1 hp
    cases h
    exact ⟨rfl, rfl, rfl, rfl⟩
  | done => cases h

/-- What a micro-step does with its response leaves the launch inputs. -/
def KeepsLaunch {α : Type} (fin : α → State → Except Fault State) : Prop :=
  ∀ r s s', fin r s = .ok s' → s.sameLaunch s'

/-! After the exchange, each micro-step's own part. -/

theorem goOn_keepsLaunch {α : Type} (u : MicroStep) : KeepsLaunch (goOn u : α → State → Except Fault State) := by
  rintro r s s' ⟨⟩
  exact ⟨rfl, rfl, rfl, rfl⟩

theorem keyFetched_keepsLaunch : KeepsLaunch keyFetched := by
  intro t s s' h
  by_cases ht : hi8 t = Config.tokenMark
  · rw [keyFetched, if_pos ht] at h
    obtain ⟨pp, _, h⟩ := bind_ok.1 h
    cases h
    exact ⟨rfl, rfl, rfl, rfl⟩
  · rw [keyFetched_unmarked ht] at h
    cases h
    exact ⟨rfl, rfl, rfl, rfl⟩

theorem lengthSent_keepsLaunch : KeepsLaunch lengthSent := by
  intro r s s' h
  obtain ⟨fa, _, h⟩ := bind_ok.1 h
  obtain ⟨seed, _, h⟩ := bind_ok.1 h
  cases h
  exact ⟨rfl, rfl, rfl, rfl⟩

theorem payloadSent_keepsLaunch (i : Nat) : KeepsLaunch (payloadSent i) := by
  intro r s s' h
  unfold payloadSent at h
  split at h <;> cases h <;> exact ⟨rfl, rfl, rfl, rfl⟩

theorem waited_keepsLaunch : KeepsLaunch waited := by
  intro r s s' h
  obtain ⟨c, hc, -⟩ := bind_ok.1 h
  rw [waited_eq (need_ok.1 hc)] at h
  cases h
  split
  · exact ⟨rfl, rfl, rfl, rfl⟩
  · split <;> exact ⟨rfl, rfl, rfl, rfl⟩

theorem digestSent_keepsLaunch (d : Half) : KeepsLaunch (digestSent d) := by
  intro r s s' h
  unfold digestSent at h
  split at h <;> cases h <;> exact ⟨rfl, rfl, rfl, rfl⟩

/-- An operation that leaves the launch inputs, or the model fault that undid it, leaves them. -/
theorem State.orFault_sameLaunch {x : Except Fault State} (h : ∀ t, x = .ok t → s.sameLaunch t) :
    s.sameLaunch (s.orFault x) := by
  cases x with
  | ok t => exact h t rfl
  | error f => exact ⟨rfl, rfl, rfl, rfl⟩

/-- A micro-step leaves the launch inputs when its exchange and what follows it do. -/
theorem microStep_sameLaunch {α : Type} {m : String} {u : MicroStep} {w : Word} {ex : State → Option α × State}
    {fin : α → State → Except Fault State} (hex : ∀ t : State, t.sameLaunch (ex t).2) (hfin : KeepsLaunch fin)
    (h : microStep m u w ex fin s = .next s') : s.sameLaunch s' := by
  obtain ⟨-, -, ⟨f, -, rfl⟩ | ⟨t, hp, rfl⟩⟩ := microStep_next h
  · exact ⟨rfl, rfl, rfl, rfl⟩
  · have hheard : s.sameLaunch (ex t).2 := (State.prepare_sameLaunch hp).trans (hex t)
    rcases hx : ex t with ⟨_ | r, t2⟩ <;> rw [hx] at hheard
    · exact hheard
    · exact State.orFault_sameLaunch fun t' ht' => hheard.trans (hfin r t2 t' ht')

theorem microStep16_sameLaunch {m : String} {u : MicroStep} {h : Half} {fin : Half → State → Except Fault State}
    (hfin : KeepsLaunch fin) (hs : microStep16 m u h fin s = .next s') : s.sameLaunch s' :=
  microStep_sameLaunch (fun _ => ⟨rfl, rfl, rfl, rfl⟩) hfin hs

theorem microStep32_sameLaunch {m : String} {u : MicroStep} {w : Word} {fin : Word → State → Except Fault State}
    (hfin : KeepsLaunch fin) (hs : microStep32 m u w fin s = .next s') : s.sameLaunch s' :=
  microStep_sameLaunch (fun _ => ⟨rfl, rfl, rfl, rfl⟩) hfin hs

/-- The probe's exchange leaves the launch inputs, whatever it answers. -/
theorem State.probeExchange_sameLaunch (s : State) : s.sameLaunch s.probeExchange := by
  unfold State.probeExchange
  split <;> rename_i hx <;> cases congrArg Prod.snd hx <;> exact ⟨rfl, rfl, rfl, rfl⟩

/-- What an operation returns after a unit's body leaves the launch inputs when the body does. -/
theorem State.orFault_map_sameLaunch {α : Type} {x : Except Fault α} {f : α → State}
    (h : ∀ a, x = .ok a → s.sameLaunch (f a)) : s.sameLaunch (s.orFault (x.map f)) := by
  cases x with
  | ok a => exact h a rfl
  | error e => exact ⟨rfl, rfl, rfl, rfl⟩

theorem execCrcStep_sameLaunch {v : Word} (h : execCrcStep v s = .next s') : s.sameLaunch s' := by
  cases h
  refine State.orFault_map_sameLaunch fun t ht => ?_
  obtain ⟨_, _, _, rfl⟩ := State.crcStep_ok.1 ht
  exact ⟨rfl, rfl, rfl, rfl⟩

theorem execCrcDigest_sameLaunch (h : execCrcDigest s = .next s') : s.sameLaunch s' := by
  cases h
  refine State.orFault_map_sameLaunch fun p hp => ?_
  obtain ⟨_, _, _, _, _, rfl⟩ := State.crcDigest_ok.1 hp
  exact ⟨rfl, rfl, rfl, rfl⟩

theorem execKsgStep_sameLaunch {v index : Word} (h : execKsgStep v index s = .next s') : s.sameLaunch s' := by
  cases h
  refine State.orFault_map_sameLaunch fun p hp => ?_
  obtain ⟨_, _, _, rfl⟩ := State.ksgStep_ok.1 hp
  exact ⟨rfl, rfl, rfl, rfl⟩

theorem execSeqNew_sameLaunch {cfg : Byte} (h : execSeqNew cfg s = .next s') : s.sameLaunch s' := by
  simp only [execSeqNew] at h
  split at h <;> cases h <;> exact ⟨rfl, rfl, rfl, rfl⟩

theorem execSeqProbe_sameLaunch (h : execSeqProbe s = .next s') : s.sameLaunch s' := by
  unfold execSeqProbe at h
  split at h <;> cases h
  · exact s.probeExchange_sameLaunch
  · exact ⟨rfl, rfl, rfl, rfl⟩

theorem execWProbe_sameLaunch (h : execWProbe s = .next s') : s.sameLaunch s' := by
  unfold execWProbe at h
  split at h <;> cases h
  exact s.probeExchange_sameLaunch

theorem execSeqMultiboot_sameLaunch (h : execSeqMultiboot s = .next s') : s.sameLaunch s' := by
  unfold execSeqMultiboot at h
  split at h <;> cases h <;> exact ⟨rfl, rfl, rfl, rfl⟩

/-- No instruction changes a launch input. -/
theorem exec_sameLaunch {i : Instr} (h : exec i s = .next s') : s.sameLaunch s' := by
  cases i with
  | crcInit | ksgInit | statusRead => cases h; exact ⟨rfl, rfl, rfl, rfl⟩
  | crcStep => exact execCrcStep_sameLaunch h
  | crcDigest => exact execCrcDigest_sameLaunch h
  | ksgStep => exact execKsgStep_sameLaunch h
  | seqNew => exact execSeqNew_sameLaunch h
  | seqProbe => exact execSeqProbe_sameLaunch h
  | seqMultiboot => exact execSeqMultiboot_sameLaunch h
  | wProbe => exact execWProbe_sameLaunch h
  | wHdrStart | wHdrWord | wHdrEnd | wKeyProbe | wKeyPrime | wCrcA | wCsumStart =>
    exact microStep16_sameLaunch (goOn_keepsLaunch _) h
  | wKeyFetch => exact microStep16_sameLaunch keyFetched_keepsLaunch h
  | wLen => exact microStep16_sameLaunch lengthSent_keepsLaunch h
  | wPayload i => exact microStep32_sameLaunch (payloadSent_keepsLaunch i) h
  | wWait => exact microStep16_sameLaunch waited_keepsLaunch h
  | wCsumValue d => exact microStep16_sameLaunch (digestSent_keepsLaunch d) h

/-- The state in which a step does what it found to do. -/
def Fetched.state? : Fetched → Option State
  | .reset t => some t
  | .fault _ t => some t
  | .run _ t => some t
  | .idle => none
  | .noRow => none

/-- Finding what to do takes at most an event from the port. -/
theorem State.fetch_port_only (h : s.fetch.state? = some t) : ∃ port, t = { s with port := port } := by
  unfold State.fetch at h
  split at h
  · unfold State.fetchMicro at h
    split at h
    · cases h; exact ⟨s.port, rfl⟩
    · split at h <;> cases h; exact ⟨s.port, rfl⟩
  · unfold State.fetchPort at h
    split at h
    · cases h
    · cases h; exact ⟨_, rfl⟩
    · split at h <;> cases h <;> exact ⟨_, rfl⟩

theorem State.fetch_sameLaunch (h : s.fetch.state? = some t) : s.sameLaunch t := by
  obtain ⟨_, rfl⟩ := State.fetch_port_only h
  exact ⟨rfl, rfl, rfl, rfl⟩

/-- No step changes a launch input. -/
theorem step_sameLaunch (h : step s = .next s') : s.sameLaunch s' := by
  obtain ⟨-, rfl⟩ | ⟨t, ht, rfl⟩ | ⟨f, t, ht, rfl⟩ | ⟨i, t, ht, hexec⟩ := step_next h
  · exact s'.sameLaunch_refl
  · exact State.fetch_sameLaunch (t := t) (congrArg Fetched.state? ht)
  · exact State.fetch_sameLaunch (t := t) (congrArg Fetched.state? ht)
  · exact (State.fetch_sameLaunch (congrArg Fetched.state? ht)).trans (exec_sameLaunch hexec)

end LaunchInputs

/-- Settles O42 (00_scope.md R8): the reads by `LEN`, the bytes by their places, the image as one of the launch inputs no
step changes. -/
theorem imageReadsLittleEndian : Obligations.ImageReadsLittleEndian := by
  refine ⟨fun s s' h => ?_, fun s a => ⟨fun h => State.imgRead8_ok.2 ⟨h, rfl⟩, State.imgRead8_outside,
    fun h => ⟨_, State.memRead2_eq h, bytes_of_half rfl⟩, fun h => ⟨_, State.memRead4_eq h, bytes_of_word rfl⟩,
    State.memRead2_outside, State.memRead4_outside⟩⟩
  obtain ⟨-, himg, -, -⟩ := step_sameLaunch h
  exact himg

end Sys2Proof.Machine

/-! PROOFS. The state of reset. -/

namespace Sys2Proof.Machine

/-- Settles O8 (10_state.md R31): each register of `State.reset`, then the two hardwired constants, by their definitions. -/
theorem resetLeavesTableValues : Obligations.ResetLeavesTableValues :=
  ⟨rfl, rfl, rfl, rfl, rfl, -- the units: `CRC.REG`, `CRC.FIN`, `CRC.ST`, `KSG.SEED`, `KSG.ST`
    rfl, rfl, rfl, rfl, rfl, rfl, rfl, rfl, rfl, rfl, -- the sequencer's datapath, `PP` to `WAIT_CNT`
    rfl, rfl, rfl, rfl, rfl, -- `READY`, `PHASE`, `UPC`, `ERR`, `FAULT`
    rfl, rfl⟩ -- `CRC.POLY`, `KSG.MASK`

end Sys2Proof.Machine

/-! PROOFS. What an exchange's answer decides, and the header words. -/

namespace Sys2Proof.Machine

/-- A surfaced failure raises TransportError on the state the exchange left (R73). -/
theorem State.afterExchange_of_fst_none {α : Type} (s : State) {p : Option α × State}
    {fin : α → State → Except Fault State} (h : p.1 = none) :
    s.afterExchange p fin = p.2.raise .transportError := by
  obtain ⟨_, s2⟩ := p
  cases h
  exact s.afterExchange_none s2 fin

/-- A micro-step that discards its response moves on from the state the exchange left, whatever the response (R53). -/
theorem State.afterExchange_goOn_of_fst_some {α : Type} (s : State) {p : Option α × State} {u : MicroStep} {r : α}
    (h : p.1 = some r) : s.afterExchange p (goOn u) = p.2.advance u := by
  obtain ⟨_, s2⟩ := p
  cases h
  exact s.afterExchange_some s2 r (goOn u)

/-- Settles O32 (20_memory.md R34, 42_sequencer.md R75): the word formed from the two image bytes is the one exchanged;
then by whether the exchange surfaces a failure. -/
theorem headerWordsSentInOrder : Obligations.HeaderWordsSentInOrder := by
  rintro s k h hrun hupc hlen rfl
  rw [exec_wHdrWord, microStep_at hrun hupc (State.prepare_hdr hlen)]
  congr 1
  split
  case h_1 hx => exact s.afterExchange_of_fst_none hx
  case h_2 hx =>
    rw [s.afterExchange_goOn_of_fst_some hx, State.advance, phaseOf_afterHeaderWord]
    rfl

end Sys2Proof.Machine

/-! PROOFS. Reserved host encodings: what the decoder accepts spells an operation, and a step refuses the rest. -/

namespace Sys2Proof.Machine

/-- The check of an operand that R49 limits to bits 7:0 asks for a byte. -/
theorem onlyByte_iff {w : Word} : onlyByte w = true ↔ w.toNat < 256 := by
  rw [onlyByte, beq_iff_eq, ← BitVec.toNat_inj, BitVec.toNat_ushiftRight, Nat.shiftRight_eq_div_pow]
  simp [Nat.div_eq_zero_iff]

/-- By the rows of R48: a row accepts the operands that R49 allows it, the default row accepts none. -/
theorem spellsOperation_of_decodeOp {op : Nat} {a b : Word} {i : Instr} (h : decodeOp op a b = .ok i) :
    spellsOperation ⟨BitVec.ofNat 32 op, a, b⟩ := by
  unfold decodeOp at h
  split at h
  case h_5 => simp [spellsOperation] -- `KSG_STEP`: any operands
  case h_10 => cases h -- a reserved `OP`
  all_goals
    split at h
    · rename_i hoperands
      simp only [Bool.and_eq_true, beq_iff_eq, onlyByte_iff] at hoperands
      simp [spellsOperation, hoperands]
    · cases h

/-- The decoder accepts no triple outside the operations of R48 and R49. -/
theorem spellsOperation_of_decodeHost {o : HostOp} {i : Instr} (h : decodeHost o = .ok i) : spellsOperation o := by
  unfold decodeHost at h
  split at h
  · simpa using spellsOperation_of_decodeOp h
  · cases h

/-- Between operations a host operation that the decoder rejects is the model fault `F_RESERVED_OP` (R50). -/
theorem State.fetch_rejected {s : State} {o : HostOp} {rest : List PortEvent} {r : Reject} (ht : s.takes o rest)
    (hr : decodeHost o = .error r) : s.fetch = .fault .reservedOp { s with port := rest } := by
  obtain ⟨hidle, hport⟩ := ht
  simp [State.fetch, State.fetchPort, hidle, hport, hr]

/-- Settles O3 (30_encoding.md R50, 60_exceptions.md R104): a triple that the decoder accepted would spell an operation; one
that it rejects is a model fault, and `State.modelFault` is the effect R104 gives it. -/
theorem reservedEncodingsRefused : Obligations.ReservedEncodingsRefused := by
  intro s o rest htakes hnot
  cases hdec : decodeHost o with
  | ok i => exact absurd (spellsOperation_of_decodeHost hdec) hnot
  | error r =>
    rw [step, State.fetch_rejected htakes hdec]
    rfl

end Sys2Proof.Machine

/-! PROOFS. The CRC unit: the bit step, the word step as 32 bit steps, and the three host operations. -/

namespace Sys2Proof.Machine

section Crc

variable {s : State}

/-! ### The bit step and the word step (40_checksum.md R59, R61) -/

/-- A word masked to bit 0 is one exactly when that bit is set. -/
theorem and_one_eq_one_iff (w : Word) : w &&& 1#32 = 1#32 ↔ w.getLsbD 0 = true := by
  rw [BitVec.and_one_eq_setWidth_ofBool_getLsbD]
  cases w.getLsbD 0 <;> decide

/-- The recursion of the model is the iteration of the bit step on the pair (register, value). -/
theorem crcBits_eq_iterate (n : Nat) (reg value : Word) :
    crcBits n reg value = ((fun p : Word × Word => crcBit p.1 p.2)^[n] (reg, value)).1 := by
  induction n generalizing reg value with
  | zero => rfl
  | succ n ih => exact ih _ _

theorem crcWord_eq_iterate (reg value : Word) :
    crcWord reg value = ((fun p : Word × Word => crcBit p.1 p.2)^[32] (reg, value)).1 :=
  crcBits_eq_iterate 32 reg value

/-- The digest as the port returns it: the low half of the register, the high half cleared (R62). -/
theorem zext16_lo16 (w : Word) : zext16 (lo16 w) = w &&& 0x0000FFFF#32 := by
  rw [zext16, lo16, ← BitVec.toNat_inj, BitVec.toNat_setWidth, BitVec.toNat_setWidth, BitVec.toNat_and]
  calc w.toNat % 2 ^ 16 % 2 ^ 32
    _ = w.toNat % 2 ^ 16 := by omega
    _ = w.toNat &&& 2 ^ 16 - 1 := (Nat.and_two_pow_sub_one_eq_mod w.toNat 16).symm

/-! ### The host operations by the lifecycle check (R60 to R62) -/

theorem exec_crcInit (finalA finalB : Byte) (s : State) :
    exec (.crcInit finalA finalB) s = .next ((s.crcNew finalA finalB).returns 0#32) := rfl

theorem exec_crcStep (value : Word) (s : State) :
    exec (.crcStep value) s = .next (s.orFault ((s.crcStep value).map fun s' => s'.returns 0#32)) := rfl

theorem exec_crcDigest (s : State) :
    exec .crcDigest s = .next (s.orFault (s.crcDigest.map fun p => p.2.returns (zext16 p.1))) := rfl

/-- A word step that the lifecycle check stops is that model fault. -/
theorem exec_crcStep_of_check {f : Fault} (value : Word) (h : s.crcSt.check = .error f) :
    exec (.crcStep value) s = .next (s.modelFault f) := by
  rw [exec_crcStep, State.crcStep, h]
  rfl

/-- A digest that the lifecycle check stops is that model fault. -/
theorem exec_crcDigest_of_check {f : Fault} (h : s.crcSt.check = .error f) :
    exec .crcDigest s = .next (s.modelFault f) := by
  rw [exec_crcDigest, State.crcDigest, h]
  rfl

/-! ### The operands the command words of the unit allow (30_encoding.md R49) -/

theorem spellsOperation_crcInit_iff {o : HostOp} (h : o.cmd = 0x1#32) :
    spellsOperation o ↔ o.a.toNat < 256 ∧ o.b.toNat < 256 := by
  simp [spellsOperation, h]

theorem spellsOperation_crcStep_iff {o : HostOp} (h : o.cmd = 0x2#32) : spellsOperation o ↔ o.b = 0#32 := by
  simp [spellsOperation, h]

theorem spellsOperation_crcDigest_iff {o : HostOp} (h : o.cmd = 0x3#32) :
    spellsOperation o ↔ o.a = 0#32 ∧ o.b = 0#32 := by
  simp [spellsOperation, h]

end Crc

/-- Settles O12 (40_checksum.md R61): in LIVE by what a successful word step leaves, then by the two faults of the lifecycle
check; a nonzero `B` spells no operation. -/
theorem crcStepRunsThirtyTwoBitSteps : Obligations.CrcStepRunsThirtyTwoBitSteps := by
  refine ⟨fun s value reg hlive hreg => ?live, fun s value hst => ?unset, fun s value hst => ?digested,
    fun s o rest htakes hcmd hb => ?reserved⟩
  case live =>
    rw [exec_crcStep, State.crcStep_ok.2 ⟨hlive, reg, hreg, rfl⟩, crcWord_eq_iterate]
    rfl
  case unset => exact exec_crcStep_of_check value (congrArg CrcSt.check hst)
  case digested => exact exec_crcStep_of_check value (congrArg CrcSt.check hst)
  case reserved => exact reservedEncodingsRefused s o rest htakes (mt (spellsOperation_crcStep_iff hcmd).1 hb)

/-- Settles O13 (40_checksum.md R62): in LIVE by what a successful digest leaves and returns, then by the two faults of the
lifecycle check; a nonzero operand spells no operation. -/
theorem crcDigestStepsFinalizeOnce : Obligations.CrcDigestStepsFinalizeOnce := by
  refine ⟨fun s reg fin hlive hreg hfin => ?live, fun s hst => ?unset, fun s hst => ?digested,
    fun s o rest htakes hcmd hops => ?reserved⟩
  case live =>
    rw [exec_crcDigest, State.crcDigest_ok.2 ⟨hlive, reg, fin, hreg, hfin, rfl⟩, Except.map, zext16_lo16,
      crcWord_eq_iterate]
    rfl
  case unset => exact exec_crcDigest_of_check (congrArg CrcSt.check hst)
  case digested => exact exec_crcDigest_of_check (congrArg CrcSt.check hst)
  case reserved => exact reservedEncodingsRefused s o rest htakes (mt (spellsOperation_crcDigest_iff hcmd).1 hops)

/-- Settles O10 (40_checksum.md R59): bit 0 of the XOR is the XOR of the old bits 0. -/
theorem crcBitStep : Obligations.CrcBitStep := by
  intro reg value
  simp only [crcBit, and_one_eq_one_iff, BitVec.getLsbD_xor, Config.crcPoly]

/-- Settles O11 (40_checksum.md R60): the polynomial and the constructed unit are the model's constants by definition; an
operand above a byte spells no operation. -/
theorem crcInitConstructsUnit : Obligations.CrcInitConstructsUnit := by
  refine ⟨rfl, fun s finalA finalB => exec_crcInit finalA finalB s, fun s o rest htakes hcmd hops => ?_⟩
  exact reservedEncodingsRefused s o rest htakes (mt (spellsOperation_crcInit_iff hcmd).1 hops)

end Sys2Proof.Machine

/-! PROOFS. The keystream unit: the two host operations by the lifecycle check. -/

namespace Sys2Proof.Machine

theorem exec_ksgInit (seed : Word) (s : State) : exec (.ksgInit seed) s = .next ((s.ksgNew seed).returns 0#32) := rfl

theorem exec_ksgStep (value index : Word) (s : State) :
    exec (.ksgStep value index) s = .next (s.orFault ((s.ksgStep value index).map fun p => p.2.returns p.1)) := rfl

/-- In LIVE with a seed the step advances the seed and returns the output computed from the new one (R66). -/
theorem exec_ksgStep_of_live {s : State} {seed : Word} (value index : Word) (hlive : s.ksgSt = .live)
    (hseed : s.ksgSeed = some seed) :
    exec (.ksgStep value index) s =
      .next ({ s with ksgSeed := some (ksgNext seed) }.returns (ksgOut (ksgNext seed) value index)) := by
  rw [exec_ksgStep, State.ksgStep_ok.2 ⟨hlive, seed, hseed, rfl⟩]
  rfl

/-- A keystream step that the lifecycle check stops is that model fault. -/
theorem exec_ksgStep_of_check {s : State} {f : Fault} (value index : Word) (h : s.ksgSt.check = .error f) :
    exec (.ksgStep value index) s = .next (s.modelFault f) := by
  rw [exec_ksgStep, State.ksgStep, h]
  rfl

/-- The operand `B` that the command word of `KSG_INIT` allows (30_encoding.md R49). -/
theorem spellsOperation_ksgInit_iff {o : HostOp} (h : o.cmd = 0x4#32) : spellsOperation o ↔ o.b = 0#32 := by
  simp [spellsOperation, h]

/-- Settles O17 (41_keystream.md R65): the mask and the constructed generator are the model's by definition; a nonzero `B`
spells no operation. -/
theorem ksgInitStoresSeed : Obligations.KsgInitStoresSeed := by
  refine ⟨rfl, fun s seed => exec_ksgInit seed s, fun s o rest htakes hcmd hb => ?_⟩
  exact reservedEncodingsRefused s o rest htakes (mt (spellsOperation_ksgInit_iff hcmd).1 hb)

/-- Settles O18 (41_keystream.md R66): in LIVE by the step from the updated seed, in UNSET by the lifecycle check. -/
theorem ksgStepAnswersFromUpdatedSeed : Obligations.KsgStepAnswersFromUpdatedSeed := by
  refine ⟨fun s value index seed hlive hseed => ?live, fun s value index hst => ?unset⟩
  case live => exact exec_ksgStep_of_live value index hlive hseed
  case unset => exact exec_ksgStep_of_check value index (congrArg KsgSt.check hst)

end Sys2Proof.Machine

/-! PROOFS. The sequencer's micro-steps, each by what its exchange answers. -/

namespace Sys2Proof.Machine

section MicroSteps

variable {s : State}

/-! ### A micro-step by its exchange's answer (42_sequencer.md R73) -/

section Exchange

variable {α : Type} {m : String} {u : MicroStep} {w : Word} {ex : State → Option α × State}
  {fin : α → State → Except Fault State} {s1 : State}

/-- A micro-step whose exchange surfaces a failure raises TransportError on the state the exchange left. -/
theorem microStep_surfaced (hrun : s.phase.running = true) (hupc : s.upc = u) (hprep : s.prepare u = .ok (w, s1))
    (hx : (ex s1).1 = none) : microStep m u w ex fin s = .next ((ex s1).2.raise .transportError) := by
  rw [microStep_at hrun hupc hprep, s.afterExchange_of_fst_none hx]

/-- A micro-step whose exchange answers goes on with the response from the state the exchange left. -/
theorem microStep_answered {r : α} {t : State} (hrun : s.phase.running = true) (hupc : s.upc = u)
    (hprep : s.prepare u = .ok (w, s1)) (hx : (ex s1).1 = some r) (hfin : fin r (ex s1).2 = .ok t) :
    microStep m u w ex fin s = .next t := by
  rw [microStep_at hrun hupc hprep, ← Prod.mk.eta (p := ex s1), hx, State.afterExchange_some, hfin]
  rfl

end Exchange

section Exchange16

variable {m : String} {u : MicroStep} {h : Half} {fin : Half → State → Except Fault State} {s1 : State}

/-! The same for the micro-steps of format W16 (30_encoding.md R51). -/

theorem microStep16_surfaced (hrun : s.phase.running = true) (hupc : s.upc = u)
    (hprep : s.prepare u = .ok (zext16 h, s1)) (hx : (s1.x16 (.micro u) h).1 = none) :
    microStep16 m u h fin s = .next ((s1.heard (.micro u) (zext16 h)).raise .transportError) :=
  microStep_surfaced hrun hupc hprep hx

theorem microStep16_answered {r : Half} {t : State} (hrun : s.phase.running = true) (hupc : s.upc = u)
    (hprep : s.prepare u = .ok (zext16 h, s1)) (hx : (s1.x16 (.micro u) h).1 = some r)
    (hfin : fin r (s1.heard (.micro u) (zext16 h)) = .ok t) : microStep16 m u h fin s = .next t :=
  microStep_answered hrun hupc hprep hx hfin

end Exchange16

/-! ### The words with a parameter byte (30_encoding.md R52) -/

/-- Format W16 widens the command byte and the parameter byte alike. -/
theorem zext16_withParam (base : Half) (p : Byte) : zext16 (withParam base p) = zext16 base ||| p.setWidth 32 := by
  rw [zext16, withParam, BitVec.setWidth_or, BitVec.setWidth_setWidth (by decide), zext16]

theorem zext16_keyWord (pp : Byte) : zext16 (withParam Config.cmdKey pp) = 0x00006300#32 ||| pp.setWidth 32 :=
  zext16_withParam _ pp

theorem zext16_crcAWord (fa : Byte) : zext16 (withParam Config.cmdCrcA fa) = 0x00006400#32 ||| fa.setWidth 32 :=
  zext16_withParam _ fa

/-! ### The values that a micro-step computes -/

/-- The low byte of a response (R79, R81), as bits 7:0. -/
theorem loByte_eq (h : Half) : loByte h = h.extractLsb' 0 8 := BitVec.setWidth_eq_extractLsb' (by decide)

/-- The digest's bits of the CRC register (R86), as bits 15:0. -/
theorem lo16_eq (w : Word) : lo16 w = w.extractLsb' 0 16 := BitVec.setWidth_eq_extractLsb' (by decide)

/-- The length parameter is the integer `N - 0x34` modulo 2^16, also for `N` below 0x34 (R81). -/
theorem State.lengthParam_eq (s : State) : s.lengthParam = BitVec.ofInt 16 ((s.payloadWords : Int) - 0x34) := by
  rw [State.lengthParam, Int.sub_eq_add_neg, BitVec.ofInt_add, BitVec.ofInt_natCast, BitVec.sub_eq_add_neg]
  rfl

/-- `WI` is the payload word's byte offset (R82). -/
theorem wordIndex_eq (i : Nat) : wordIndex i = BitVec.ofNat 32 (4 * i + 192) :=
  congrArg (BitVec.ofNat 32) (Nat.add_comm 192 (4 * i))

/-- The acknowledgement of payload word `i` (R82). -/
theorem lo16_wordIndex (i : Nat) : lo16 (wordIndex i) = BitVec.ofNat 16 (4 * i + 192) := by
  rw [wordIndex_eq, lo16, BitVec.setWidth_ofNat_of_le (by decide)]

/-- A wait reaches its limit only under a bound (R84). -/
theorem limitReached_iff {l : WaitLimit} {n : Nat} : limitReached l n = true ↔ ∃ m, l = .bounded m ∧ m ≤ n := by
  cases l <;> simp [limitReached]

/-! ### The phase of the micro-step that follows (42_sequencer.md R71, R81, R82) -/

theorem State.phaseOf_afterKeys (s : State) :
    phaseOf s.afterKeys = if 0 < s.payloadWords then .transferring else .validating :=
  apply_ite phaseOf _ _ _

theorem State.phaseOf_afterPayload (s : State) (i : Nat) :
    phaseOf (s.afterPayload i) = if i + 1 < s.payloadWords then .transferring else .validating :=
  apply_ite phaseOf _ _ _

end MicroSteps

/-- Settles O31 (42_sequencer.md R74, R76, R77, R85): none of the four prepares anything, so each is its exchange. -/
theorem fixedWordMicroSteps : Obligations.FixedWordMicroSteps := by
  refine ⟨fun s hrun hupc => ?h0, fun s hrun hupc => ?h97, fun s hrun hupc => ?k0, fun s hrun hupc => ?v1⟩
  all_goals
    split
    next hx => exact microStep16_surfaced hrun hupc rfl hx
    next hx => exact microStep16_answered hrun hupc rfl hx rfl

/-- Settles O33 (42_sequencer.md R78, R80): the word is formed from `PP` or from `FA`, and the micro-step is its
exchange. -/
theorem parameterWordMicroSteps : Obligations.ParameterWordMicroSteps := by
  refine ⟨fun s pp hrun hupc hpp => ?k1, fun s fa hrun hupc hfa => ?k3⟩
  case k1 =>
    rw [← zext16_keyWord]
    split
    next hx => exact microStep16_surfaced hrun hupc (State.prepare_k1 hpp) hx
    next hx => exact microStep16_answered hrun hupc (State.prepare_k1 hpp) hx rfl
  case k3 =>
    rw [← zext16_crcAWord]
    split
    next hx => exact microStep16_surfaced hrun hupc (State.prepare_k3 hfa) hx
    next hx => exact microStep16_answered hrun hupc (State.prepare_k3 hfa) hx rfl

/-- Settles O34 (42_sequencer.md R79, R90): by whether the exchange answers, then by the token's mark. -/
theorem keyFetchChecksToken : Obligations.KeyFetchChecksToken := by
  intro s pp hrun hupc hpp
  have hprep := State.prepare_k2 hpp
  rw [← zext16_keyWord]
  split
  next hx => exact microStep16_surfaced hrun hupc hprep hx
  next t hx =>
    rw [← loByte_eq]
    split
    next hmark => exact microStep16_answered hrun hupc hprep hx (keyFetched_marked hmark hpp)
    next hmark => exact microStep16_answered hrun hupc hprep hx (keyFetched_unmarked hmark)

/-- Settles O35 (42_sequencer.md R81): by whether the exchange answers; the micro-step that follows depends on whether
there is a payload word. -/
theorem lengthExchangeConstructsUnits : Obligations.LengthExchangeConstructsUnits := by
  intro s fa seed h hrun hupc hfa hseed hlen
  obtain rfl : h = s.lengthParam := hlen.trans s.lengthParam_eq.symm
  have hprep : s.prepare .k4 = .ok (zext16 s.lengthParam, { s with lenParam := some s.lengthParam }) := rfl
  split
  next hx => exact microStep16_surfaced hrun hupc hprep hx
  next r hx =>
    rw [← loByte_eq, ← State.phaseOf_afterKeys]
    exact microStep16_answered hrun hupc hprep hx (lengthSent_eq hfa hseed)

/-- Settles O36 (20_memory.md R35, 42_sequencer.md R82, R83): by whether the exchange answers, then by the
acknowledgement; both units are stepped in `State.prepare`, before either. -/
theorem payloadWordSteppedThenSent : Obligations.PayloadWordSteppedThenSent := by
  intro s i reg seed w c hrun hupc hcrc hreg hksg hseed hlen hw hc
  have hprep := State.prepare_t (hw ▸ State.payloadWord_eq hlen) hcrc hreg hksg hseed
  obtain rfl : c = ksgOut (ksgNext seed) w (wordIndex i) := by rw [hc, ← wordIndex_eq]; rfl
  rw [← lo16_wordIndex]
  split
  next hx => exact microStep_surfaced hrun hupc hprep hx
  next r hx =>
    split
    next hack =>
      rw [← State.phaseOf_afterPayload]
      exact microStep_answered hrun hupc hprep hx (if_pos hack)
    next hack => exact microStep_answered hrun hupc hprep hx (if_neg hack)

/-- Settles O37 (42_sequencer.md R84, R94, R98): by whether the exchange answers; `waited_eq` then asks
for the exit before the bound. -/
theorem waitExitsTimesOutOrRepeats : Obligations.WaitExitsTimesOutOrRepeats := by
  intro s n atLimit hrun hupc hcnt hlimit
  obtain rfl : limitReached s.waitLimit (n + 1) = atLimit := Bool.eq_iff_iff.2 (limitReached_iff.trans hlimit.symm)
  split
  next hx => exact microStep16_surfaced hrun hupc rfl hx
  next r hx => exact microStep16_answered hrun hupc rfl hx (waited_eq hcnt)

/-- Settles O38 (42_sequencer.md R86, R92): by whether the exchange answers, then by whether the response is the digest,
which `State.prepare` has taken and kept. -/
theorem digestSentAndEchoed : Obligations.DigestSentAndEchoed := by
  intro s reg fin d hrun hupc hcrc hreg hfin hd
  obtain rfl : d = lo16 (crcWord reg fin) := hd.trans (lo16_eq _).symm
  have hprep := State.prepare_v2 hcrc hreg hfin
  split
  next hx => exact microStep16_surfaced hrun hupc hprep hx
  next r hx =>
    split
    next hecho => exact microStep16_answered hrun hupc hprep hx (if_pos hecho)
    next hecho => exact microStep16_answered hrun hupc hprep hx (if_neg hecho)

end Sys2Proof.Machine

/-! PROOFS. The `STATUS` view: its fields read back from their places. -/

namespace Sys2Proof.Machine

/-- Fields of 3, 1, 3, 2 and 1 bits, laid from bits 0, 3, 4, 8 and 10 up (10_state.md R26), read back from their places; no
other bit is set. -/
theorem fields_of_status {w : Word} {phase err : BitVec 3} {ready ksg : BitVec 1} {crc : BitVec 2}
    (hw : w = phase.setWidth 32 ||| ready.setWidth 32 <<< 3 ||| err.setWidth 32 <<< 4 ||| crc.setWidth 32 <<< 8 |||
      ksg.setWidth 32 <<< 10) :
    w.extractLsb' 0 3 = phase ∧ w.getLsbD 3 = ready.getLsbD 0 ∧ w.extractLsb' 4 3 = err ∧ w.getLsbD 7 = false ∧
      w.extractLsb' 8 2 = crc ∧ w.getLsbD 10 = ksg.getLsbD 0 ∧ w.extractLsb' 11 21 = 0#21 := by
  subst hw
  refine ⟨?phase, ?ready, ?err, ?bit7, ?crc, ?ksg, ?rest⟩
  case ready | bit7 | ksg => simp
  all_goals
    ext i hi
    simp only [BitVec.getElem_extractLsb', BitVec.getLsbD_or, BitVec.getLsbD_shiftLeft, BitVec.getLsbD_setWidth]
    grind

/-- Every code of `STATUS` fits the width of its field. -/
theorem State.statusWord_eq (s : State) :
    s.statusWord =
      (s.phase.code.setWidth 3).setWidth 32 ||| ((readyCode s.ready).setWidth 1).setWidth 32 <<< 3 |||
        (s.err.code.setWidth 3).setWidth 32 <<< 4 ||| (s.crcSt.code.setWidth 2).setWidth 32 <<< 8 |||
        (s.ksgSt.code.setWidth 1).setWidth 32 <<< 10 := by
  have hphase : (s.phase.code.setWidth 3).setWidth 32 = s.phase.code := by cases s.phase <;> rfl
  have hready : ((readyCode s.ready).setWidth 1).setWidth 32 = readyCode s.ready := by cases s.ready <;> rfl
  have herr : (s.err.code.setWidth 3).setWidth 32 = s.err.code := by cases s.err <;> rfl
  have hcrc : (s.crcSt.code.setWidth 2).setWidth 32 = s.crcSt.code := by cases s.crcSt <;> rfl
  have hksg : (s.ksgSt.code.setWidth 1).setWidth 32 = s.ksgSt.code := by cases s.ksgSt <;> rfl
  rw [hphase, hready, herr, hcrc, hksg, State.statusWord]

/-- Settles O25 (42_sequencer.md R72, 10_state.md R26): every field reads back its register's code, and the
codes are those of the registers' tables, one by one. -/
theorem statusReadReturnsLayout : Obligations.StatusReadReturnsLayout := by
  intro s
  obtain ⟨hphase, hready, herr, hbit7, hcrc, hksg, hrest⟩ := fields_of_status s.statusWord_eq
  refine ⟨s.statusWord, rfl, hphase.trans ?phase, hready.trans ?ready, herr.trans ?err, hbit7, hcrc.trans ?crc,
    hksg.trans ?ksg, hrest⟩
  case phase => cases s.phase <;> rfl
  case ready => cases s.ready <;> rfl
  case err => cases s.err <;> rfl
  case crc => cases s.crcSt <;> rfl
  case ksg => cases s.ksgSt <;> rfl

end Sys2Proof.Machine

/-! PROOFS. What a step does to `FAULT`: a model fault undoes the operation and records itself, anything else leaves the
register. -/

namespace Sys2Proof.Machine

section ModelFaults

variable {s t s' : State}

/-- What R104 allows an operation from `s` to leave: `FAULT` as it was, or `s` itself with the model fault taken. -/
def State.keepsFaultOrFaults (s s' : State) : Prop := s'.fault = s.fault ∨ ∃ f, s' = s.modelFault f

/-- A model fault undoes the part that raised it, so only a part that succeeds has anything to show. -/
theorem State.orFault_keepsFaultOrFaults {x : Except Fault State} (h : ∀ t, x = .ok t → t.fault = s.fault) :
    s.keepsFaultOrFaults (s.orFault x) := by
  cases x with
  | ok t => exact .inl (h t rfl)
  | error f => exact .inr ⟨f, rfl⟩

/-- The same for an operation that returns a value after a unit's body. -/
theorem State.orFault_map_keepsFaultOrFaults {α : Type} {x : Except Fault α} {f : α → State}
    (h : ∀ a, x = .ok a → (f a).fault = s.fault) : s.keepsFaultOrFaults (s.orFault (x.map f)) := by
  refine State.orFault_keepsFaultOrFaults fun t ht => ?_
  cases x with
  | ok a => cases ht; exact h a rfl
  | error e => cases ht

/-! ### The parts of an operation that succeed leave `FAULT` -/

theorem State.crcStep_fault {v : Word} (h : s.crcStep v = .ok t) : t.fault = s.fault := by
  obtain ⟨_, _, _, rfl⟩ := State.crcStep_ok.1 h
  rfl

theorem State.crcDigest_fault {p : Half × State} (h : s.crcDigest = .ok p) : p.2.fault = s.fault := by
  obtain ⟨_, _, _, _, _, rfl⟩ := State.crcDigest_ok.1 h
  rfl

theorem State.ksgStep_fault {v index : Word} {p : Word × State} (h : s.ksgStep v index = .ok p) :
    p.2.fault = s.fault := by
  obtain ⟨_, _, _, rfl⟩ := State.ksgStep_ok.1 h
  rfl

theorem State.probeExchange_fault (s : State) : s.probeExchange.fault = s.fault := by
  unfold State.probeExchange
  split <;> rename_i hx <;> cases congrArg Prod.snd hx <;> rfl

/-- Before its exchange a micro-step changes at most the two units, `LENPARAM` and `DIGEST`. -/
theorem State.prepare_fault {u : MicroStep} {w : Word} (h : s.prepare u = .ok (w, t)) : t.fault = s.fault := by
  cases u with
  | h0 | h97 | k0 | k4 | v0 | v1 => cases h; rfl
  | hdr | k1 | k2 | k3 =>
    obtain ⟨_, _, h⟩ := bind_ok.1 h
    cases h
    rfl
  | t i =>
    obtain ⟨_, _, h⟩ := bind_ok.1 h
    obtain ⟨_, hcrc, hksg⟩ := bind_ok.1 h
    exact (State.ksgStep_fault hksg).trans (State.crcStep_fault hcrc)
  | v2 =>
    obtain ⟨_, hdigest, h⟩ := bind_ok.1 h
    cases h
    exact State.crcDigest_fault hdigest
  | done => cases h

/-- What a micro-step does with its response, when that succeeds, leaves `FAULT`. -/
def KeepsFault {α : Type} (fin : α → State → Except Fault State) : Prop :=
  ∀ r s s', fin r s = .ok s' → s'.fault = s.fault

theorem goOn_keepsFault {α : Type} (u : MicroStep) : KeepsFault (goOn u : α → State → Except Fault State) := by
  rintro r s s' ⟨⟩
  rfl

theorem keyFetched_keepsFault : KeepsFault keyFetched := by
  intro t s s' h
  by_cases ht : hi8 t = Config.tokenMark
  · rw [keyFetched, if_pos ht] at h
    obtain ⟨_, _, h⟩ := bind_ok.1 h
    cases h
    rfl
  · rw [keyFetched_unmarked ht] at h
    cases h
    rfl

theorem lengthSent_keepsFault : KeepsFault lengthSent := by
  intro r s s' h
  obtain ⟨_, _, h⟩ := bind_ok.1 h
  obtain ⟨_, _, h⟩ := bind_ok.1 h
  cases h
  rfl

theorem payloadSent_keepsFault (i : Nat) : KeepsFault (payloadSent i) := by
  intro r s s' h
  unfold payloadSent at h
  split at h <;> cases h <;> rfl

theorem waited_keepsFault : KeepsFault waited := by
  intro r s s' h
  obtain ⟨_, hcnt, -⟩ := bind_ok.1 h
  rw [waited_eq (need_ok.1 hcnt)] at h
  cases h
  split
  · rfl
  · split <;> rfl

theorem digestSent_keepsFault (d : Half) : KeepsFault (digestSent d) := by
  intro r s s' h
  unfold digestSent at h
  split at h <;> cases h <;> rfl

/-! ### Whole operations -/

/-- A model fault before or after the exchange undoes the micro-step; a surfaced failure is a session error, no model
fault. -/
theorem microStep_keepsFaultOrFaults {α : Type} {m : String} {u : MicroStep} {w : Word}
    {ex : State → Option α × State} {fin : α → State → Except Fault State}
    (hex : ∀ t : State, (ex t).2.fault = t.fault) (hfin : KeepsFault fin) (h : microStep m u w ex fin s = .next s') :
    s.keepsFaultOrFaults s' := by
  obtain ⟨-, -, ⟨f, -, rfl⟩ | ⟨t, hp, rfl⟩⟩ := microStep_next h
  · exact .inr ⟨f, rfl⟩
  · have hheard : (ex t).2.fault = s.fault := (hex t).trans (State.prepare_fault hp)
    rcases hx : ex t with ⟨_ | r, t2⟩ <;> rw [hx] at hheard
    · exact .inl hheard
    · exact State.orFault_keepsFaultOrFaults fun t' ht' => (hfin r t2 t' ht').trans hheard

theorem microStep16_keepsFaultOrFaults {m : String} {u : MicroStep} {h : Half} {fin : Half → State → Except Fault State}
    (hfin : KeepsFault fin) (hs : microStep16 m u h fin s = .next s') : s.keepsFaultOrFaults s' :=
  microStep_keepsFaultOrFaults (fun _ => rfl) hfin hs

theorem microStep32_keepsFaultOrFaults {m : String} {u : MicroStep} {w : Word} {fin : Word → State → Except Fault State}
    (hfin : KeepsFault fin) (hs : microStep32 m u w fin s = .next s') : s.keepsFaultOrFaults s' :=
  microStep_keepsFaultOrFaults (fun _ => rfl) hfin hs

/-- The host operations by their checks, the wire words by what they do with the response. -/
theorem exec_keepsFaultOrFaults {i : Instr} (h : exec i s = .next s') : s.keepsFaultOrFaults s' := by
  cases i with
  | crcInit | ksgInit | statusRead => cases h; exact .inl rfl
  | crcStep =>
    cases h
    exact State.orFault_map_keepsFaultOrFaults fun t ht => (t.returns_fault _).trans (State.crcStep_fault ht)
  | crcDigest =>
    cases h
    exact State.orFault_map_keepsFaultOrFaults fun p hp => (p.2.returns_fault _).trans (State.crcDigest_fault hp)
  | ksgStep =>
    cases h
    exact State.orFault_map_keepsFaultOrFaults fun p hp => (p.2.returns_fault _).trans (State.ksgStep_fault hp)
  | seqNew =>
    simp only [exec, execSeqNew] at h
    split at h <;> cases h <;> exact .inl rfl
  | seqProbe =>
    simp only [exec, execSeqProbe] at h
    split at h <;> cases h
    · exact .inl s.probeExchange_fault
    · exact .inr ⟨_, rfl⟩
  | seqMultiboot =>
    simp only [exec, execSeqMultiboot] at h
    split at h <;> cases h
    · exact .inl rfl
    · exact .inr ⟨_, rfl⟩
  | wProbe =>
    simp only [exec, execWProbe] at h
    split at h <;> cases h
    exact .inl s.probeExchange_fault
  | wHdrStart | wHdrWord | wHdrEnd | wKeyProbe | wKeyPrime | wCrcA | wCsumStart =>
    exact microStep16_keepsFaultOrFaults (goOn_keepsFault _) h
  | wKeyFetch => exact microStep16_keepsFaultOrFaults keyFetched_keepsFault h
  | wLen => exact microStep16_keepsFaultOrFaults lengthSent_keepsFault h
  | wPayload i => exact microStep32_keepsFaultOrFaults (payloadSent_keepsFault i) h
  | wWait => exact microStep16_keepsFaultOrFaults waited_keepsFault h
  | wCsumValue d => exact microStep16_keepsFaultOrFaults (digestSent_keepsFault d) h

/-- A step as an operation on the state whose port event has been taken off. -/
theorem step_keepsFaultOrFaults (h : step s = .next s') :
    ∃ rest : List PortEvent, { s with port := rest }.keepsFaultOrFaults s' := by
  obtain ⟨-, rfl⟩ | ⟨t, ht, rfl⟩ | ⟨f, t, ht, rfl⟩ | ⟨i, t, ht, hexec⟩ := step_next h
  case inl => exact ⟨s'.port, .inl rfl⟩
  all_goals obtain ⟨rest, rfl⟩ := State.fetch_port_only (congrArg Fetched.state? ht)
  · exact ⟨rest, .inl rfl⟩
  · exact ⟨rest, .inr ⟨f, rfl⟩⟩
  · exact ⟨rest, exec_keepsFaultOrFaults hexec⟩

end ModelFaults

/-- Settles O47 (60_exceptions.md R104): by whether the step left `FAULT` or took a model fault, which `State.modelFault`
records only where none stands. Neither half needs the invariant. -/
theorem modelFaultRecordedForGood : Obligations.ModelFaultRecordedForGood := by
  refine ⟨fun s s' f _ hnone hstep hf => ?first, fun s s' f hsome hstep => ?stays⟩ <;>
    obtain ⟨rest, hkept | ⟨g, rfl⟩⟩ := step_keepsFaultOrFaults hstep
  case first.inl => cases hf.symm.trans (hkept.trans hnone)
  case first.inr =>
    obtain rfl : g = f := by simpa [hnone] using hf
    exact ⟨rest, by simp [State.modelFault, hnone]⟩
  case stays.inl => exact hkept.trans hsome
  case stays.inr => simp [hsome]

end Sys2Proof.Machine

/-! PROOFS. Decoding and encoding agree: what each row of the two tables reads is written back as it stood. -/

namespace Sys2Proof.Machine

section Codec

/-! ### The data field of a word is what its mask leaves open (30_encoding.md R49, R52) -/

/-- A word that is zero above its low byte is that byte, widened. -/
theorem zext8_lo8 {w : Word} (h : onlyByte w = true) : zext8 (lo8 w) = w := by
  have hw : w.toNat < 256 := onlyByte_iff.1 h
  apply BitVec.eq_of_toNat_eq
  simp only [zext8, lo8, BitVec.toNat_setWidth]
  omega

/-- A word whose upper half is zero is its low half, widened. -/
theorem zext16_lo16_of_upper {w : Word} (h : w &&& 0xFFFF0000#32 = 0#32) : zext16 (lo16 w) = w :=
  calc zext16 (lo16 w)
    _ = w &&& 0x0000FFFF#32 := zext16_lo16 w
    _ = w &&& 0xFFFF0000#32 ||| w &&& 0x0000FFFF#32 := by rw [h, BitVec.zero_or]
    _ = w &&& 0xFFFFFFFF#32 := by rw [← BitVec.and_or_distrib_left]; rfl
    _ = w := BitVec.and_allOnes

/-- A word whose upper 24 bits are a command byte is that command byte with the word's low byte as its parameter. -/
theorem zext16_withParam_lo8 {base : Half} {w : Word} (h : w &&& 0xFFFFFF00#32 = zext16 base) :
    zext16 (withParam base (lo8 w)) = w := by
  have hlow : (lo8 w).setWidth 32 = w &&& 0x000000FF#32 := by
    ext i hi
    simp only [lo8, BitVec.getElem_setWidth, BitVec.getLsbD_setWidth, BitVec.getElem_and]
    interval_cases i <;> simp
  calc zext16 (withParam base (lo8 w))
    _ = w &&& 0xFFFFFF00#32 ||| w &&& 0x000000FF#32 := by rw [zext16_withParam, hlow, h]
    _ = w &&& 0xFFFFFFFF#32 := by rw [← BitVec.and_or_distrib_left]; rfl
    _ = w := BitVec.and_allOnes

/-! ### From the code to the instruction and back -/

/-- By the rows of R48: an accepted triple has the operands its row leaves open, and zeros elsewhere. -/
theorem encode_of_decodeOp {op : Nat} {a b : Word} {i : Instr} (h : decodeOp op a b = .ok i) :
    i.wellFormed = true ∧ encode i = .host ⟨BitVec.ofNat 32 op, a, b⟩ := by
  unfold decodeOp at h
  split at h
  case h_5 => cases h; exact ⟨rfl, rfl⟩ -- `KSG_STEP`: any operands
  case h_10 => cases h -- a reserved `OP`
  all_goals
    split at h <;> cases h
    rename_i hoperands
    simp only [Bool.and_eq_true, beq_iff_eq] at hoperands
    simp [Instr.wellFormed, encode, zext8_lo8, hoperands]

theorem encode_of_decodeHost {o : HostOp} {i : Instr} (h : decodeHost o = .ok i) :
    i.wellFormed = true ∧ encode i = .host o := by
  unfold decodeHost at h
  split at h
  · simpa using encode_of_decodeOp h
  · cases h

/-- A row that fixes all bits is matched by one word alone. -/
theorem eq_of_and_allOnes {w m : Word} (h : w &&& 0xFFFFFFFF#32 = m) : m = w := h.symm.trans BitVec.and_allOnes

/-- By the rows of the wire table: a word that matches its row is the row's fixed bits with its data field. -/
theorem encode_of_wireInstr {pos : WirePos} {w m mask : Word} {i : Instr} (hrow : wireRow pos = some (m, mask))
    (hmatch : w &&& mask = m) (h : wireInstr pos w = .ok i) : i.wellFormed = true ∧ encode i = .wire pos w := by
  cases pos with
  | probe => cases hrow; cases h; exact ⟨rfl, congrArg _ (eq_of_and_allOnes hmatch)⟩
  | micro u =>
    cases u with
    | h0 | h97 | k0 | v0 | v1 => cases hrow; cases h; exact ⟨rfl, congrArg _ (eq_of_and_allOnes hmatch)⟩
    | hdr | k4 | v2 => cases hrow; cases h; exact ⟨rfl, congrArg _ (zext16_lo16_of_upper hmatch)⟩
    | k1 | k2 | k3 => cases hrow; cases h; exact ⟨rfl, congrArg _ (zext16_withParam_lo8 hmatch)⟩
    | t n =>
      simp only [wireInstr] at h
      split at h <;> cases h
      exact ⟨‹_›, rfl⟩
    | done => cases hrow

theorem encode_of_decodeWire {pos : WirePos} {w : Word} {i : Instr} (h : decodeWire pos w = .ok i) :
    i.wellFormed = true ∧ encode i = .wire pos w := by
  unfold decodeWire at h
  split at h
  · cases h
  · rename_i hrow
    split at h
    · rename_i hmatch; exact encode_of_wireInstr hrow (beq_iff_eq.1 hmatch) h
    · cases h

/-- The round trip of every instruction, gathered. -/
theorem decode_encode (i : Instr) : Laws.Codec.Statement i := by
  cases i with
  | crcInit => apply Laws.Codec.crcInit
  | crcStep => apply Laws.Codec.crcStep
  | crcDigest => exact Laws.Codec.crcDigest
  | ksgInit => apply Laws.Codec.ksgInit
  | ksgStep => apply Laws.Codec.ksgStep
  | seqNew => apply Laws.Codec.seqNew
  | seqProbe => exact Laws.Codec.seqProbe
  | seqMultiboot => exact Laws.Codec.seqMultiboot
  | statusRead => exact Laws.Codec.statusRead
  | wProbe => exact Laws.Codec.wProbe
  | wHdrStart => exact Laws.Codec.wHdrStart
  | wHdrWord => apply Laws.Codec.wHdrWord
  | wHdrEnd => exact Laws.Codec.wHdrEnd
  | wKeyProbe => exact Laws.Codec.wKeyProbe
  | wKeyPrime => apply Laws.Codec.wKeyPrime
  | wKeyFetch => apply Laws.Codec.wKeyFetch
  | wCrcA => apply Laws.Codec.wCrcA
  | wLen => apply Laws.Codec.wLen
  | wPayload => apply Laws.Codec.wPayload
  | wWait => exact Laws.Codec.wWait
  | wCsumStart => exact Laws.Codec.wCsumStart
  | wCsumValue => apply Laws.Codec.wCsumValue

end Codec

/-- Settles O1 (30_encoding.md R48, R49, R52, R54): what is read is written back, by the rows of both tables; what is
written is read back, by the round trip of each instruction. -/
theorem decodeAndEncodeAgree : Obligations.DecodeAndEncodeAgree := by
  intro c i
  constructor
  · intro h
    cases c with
    | host o => exact encode_of_decodeHost h
    | wire pos w => exact encode_of_decodeWire h
  · rintro ⟨hwf, rfl⟩
    exact decode_encode i hwf

/-- Settles O2 (30_encoding.md R48, R49, R52): the decoder computes on the nine words. -/
theorem sampleWordsDecode : Obligations.SampleWordsDecode := by
  unfold Obligations.SampleWordsDecode
  decide

end Sys2Proof.Machine

/-! PROOFS. The algebra of the two units: the CRC word step keeps 16 bits, is linear and one-to-one; the keystream
generator undoes itself and counts its steps alone. -/

namespace Sys2Proof.Machine

section CrcAlgebra

/-! ### The bit step on 16-bit registers (40_checksum.md R59, R63) -/

/-- The bit step by the XOR of the two low bits. -/
theorem crcBit_fst (reg value : Word) :
    (crcBit reg value).1 =
      if (reg ^^^ value).getLsbD 0 = true then reg >>> 1 ^^^ Config.crcPoly else reg >>> 1 := by
  simp only [crcBit, and_one_eq_one_iff]

theorem toNat_ushiftRight_one (w : Word) : (w >>> 1).toNat = w.toNat / 2 := by
  rw [BitVec.toNat_ushiftRight, Nat.shiftRight_eq_div_pow, pow_one]

/-- A bit step keeps bits 31:16 of the register zero: the shift lowers them, the polynomial has 16 bits. -/
theorem crcBit_sixteenBits {reg : Word} (value : Word) (h : reg.toNat < 2 ^ 16) :
    (crcBit reg value).1.toNat < 2 ^ 16 := by
  have hshift : (reg >>> 1).toNat < 2 ^ 16 := by rw [toNat_ushiftRight_one]; omega
  rw [crcBit_fst]
  split
  · rw [BitVec.toNat_xor]
    exact Nat.xor_lt_two_pow hshift (by decide)
  · exact hshift

theorem crcBits_sixteenBits (n : Nat) (reg value : Word) (h : reg.toNat < 2 ^ 16) :
    (crcBits n reg value).toNat < 2 ^ 16 := by
  induction n generalizing reg value with
  | zero => exact h
  | succ n ih => exact ih _ _ (crcBit_sixteenBits value h)

/-- The bit step is linear: by which of the two low bits decide for the polynomial, which cancels when both do. -/
theorem crcBit_xor (r1 r2 v1 v2 : Word) :
    crcBit (r1 ^^^ r2) (v1 ^^^ v2) =
      ((crcBit r1 v1).1 ^^^ (crcBit r2 v2).1, (crcBit r1 v1).2 ^^^ (crcBit r2 v2).2) := by
  refine Prod.ext ?_ (BitVec.ushiftRight_xor_distrib v1 v2 1)
  have hpairs : r1 ^^^ r2 ^^^ (v1 ^^^ v2) = (r1 ^^^ v1) ^^^ (r2 ^^^ v2) := by ac_rfl
  simp only [crcBit_fst, BitVec.ushiftRight_xor_distrib, hpairs, BitVec.getLsbD_xor]
  generalize (r1.getLsbD 0 ^^ v1.getLsbD 0) = b1, (r2.getLsbD 0 ^^ v2.getLsbD 0) = b2, r1 >>> 1 = q1, r2 >>> 1 = q2
  cases b1 <;> cases b2
  case false.false => rfl
  case false.true => exact BitVec.xor_assoc q1 q2 _
  case true.false => show q1 ^^^ q2 ^^^ _ = q1 ^^^ _ ^^^ q2; ac_rfl
  case true.true =>
    calc q1 ^^^ q2
      _ = q1 ^^^ q2 ^^^ (Config.crcPoly ^^^ Config.crcPoly) := by rw [BitVec.xor_self, BitVec.xor_zero]
      _ = (q1 ^^^ Config.crcPoly) ^^^ (q2 ^^^ Config.crcPoly) := by ac_rfl

theorem crcBits_xor (n : Nat) (r1 r2 v1 v2 : Word) :
    crcBits n (r1 ^^^ r2) (v1 ^^^ v2) = crcBits n r1 v1 ^^^ crcBits n r2 v2 := by
  induction n generalizing r1 r2 v1 v2 with
  | zero => rfl
  | succ n ih =>
    simp only [crcBits, crcBit_xor]
    exact ih _ _ _ _

/-- At the value zero a 16-bit register that one bit step clears was zero: the polynomial has bit 15, which the shifted
register has not, so it was not used. -/
theorem eq_zero_of_crcBit_zero {reg : Word} (hreg : reg.toNat < 2 ^ 16) (h : (crcBit reg 0#32).1 = 0#32) :
    reg = 0#32 := by
  rw [crcBit_fst, BitVec.xor_zero] at h
  split at h
  · have hpoly : (reg >>> 1).toNat = 0xC37B := congrArg BitVec.toNat (BitVec.xor_eq_zero_iff.1 h)
    rw [toNat_ushiftRight_one] at hpoly
    omega
  · rename_i hbit
    have hshift : reg.toNat / 2 = 0 := (toNat_ushiftRight_one reg).symm.trans (congrArg BitVec.toNat h)
    have hodd : reg.toNat % 2 ≠ 1 := by simpa [BitVec.getLsbD, Nat.testBit_zero] using hbit
    exact BitVec.eq_of_toNat_eq (by simp; omega)

theorem eq_zero_of_crcBits_zero (n : Nat) {reg : Word} (hreg : reg.toNat < 2 ^ 16) (h : crcBits n reg 0#32 = 0#32) :
    reg = 0#32 := by
  induction n generalizing reg with
  | zero => exact h
  | succ n ih => exact eq_zero_of_crcBit_zero hreg (ih (crcBit_sixteenBits 0#32 hreg) h)

end CrcAlgebra

/-- Settles O14 (40_checksum.md R63): 32 bit steps, each of which keeps the bits. -/
theorem crcStepKeepsSixteenBits : Obligations.CrcStepKeepsSixteenBits :=
  crcBits_sixteenBits 32

/-- Settles O15 (40_checksum.md R63): 32 bit steps, each of which is linear. -/
theorem crcStepIsLinear : Obligations.CrcStepIsLinear :=
  ⟨crcBits_xor 32, by simpa [crcWord] using crcBits_xor 32 0#32 0#32 0#32 0#32⟩

/-- Settles O16 (40_checksum.md R61, R63): by linearity the word step of the value zero takes the registers' XOR to
zero, and it clears no other 16-bit register than zero. -/
theorem crcStepIsInjective : Obligations.CrcStepIsInjective := by
  intro r1 r2 value h1 h2 heq
  have hxor : crcWord (r1 ^^^ r2) 0#32 = 0#32 := by
    have := crcBits_xor 32 r1 r2 value value
    rwa [BitVec.xor_self, ← crcWord, ← crcWord, ← crcWord, heq, BitVec.xor_self] at this
  have hbound : (r1 ^^^ r2).toNat < 2 ^ 16 := by
    rw [BitVec.toNat_xor]
    exact Nat.xor_lt_two_pow h1 h2
  exact BitVec.xor_eq_zero_iff.1 (eq_zero_of_crcBits_zero 32 hbound hxor)

/-! ### Runs of the machine (00_scope.md R2, 30_encoding.md R47) -/

/-- Between operations a step of the machine runs the host operation that the port's next event decodes to. -/
theorem step_port {s : State} {o : HostOp} {rest : List PortEvent} {i : Instr} (ht : s.takes o rest)
    (hi : decodeHost o = .ok i) : step s = exec i { s with port := rest } := by
  obtain ⟨hidle, hport⟩ := ht
  simp [step, State.fetch, State.fetchPort, hidle, hport, hi]

/-- A run of one step more begins with that step. -/
theorem run_succ {s t : State} (k : Nat) (h : step s = .next t) :
    Host.Core.run Sys2Proof.core (k + 1) s = Host.Core.run Sys2Proof.core k t := by
  have hcore : Sys2Proof.core.step s = .next t := h
  simp only [Host.Core.run, hcore]

section Keystream

/-! ### The keystream generator (41_keystream.md R66, R67) -/

/-- With one seed and index the output of a step on an output is the value again: every other term meets itself (R67).
-/
theorem ksgOut_ksgOut (seed value index : Word) : ksgOut seed (ksgOut seed value index) index = value := by
  simp only [ksgOut]
  grind

/-- A `KSG_STEP` on the port of a LIVE generator takes its event and advances the seed, whatever its operands. -/
theorem step_ksgStep {s : State} {seed v index : Word} {rest : List PortEvent}
    (ht : s.takes ⟨0x5#32, v, index⟩ rest) (hlive : s.ksgSt = .live) (hseed : s.ksgSeed = some seed) :
    ∃ t : State, step s = .next t ∧ t.phase.running = false ∧ t.ksgSt = .live ∧ t.ksgSeed = some (ksgNext seed) ∧
      t.port = rest := by
  have hdec : decodeHost ⟨0x5#32, v, index⟩ = .ok (.ksgStep v index) := Laws.Codec.ksgStep v index rfl
  refine ⟨_, (step_port ht hdec).trans (exec_ksgStep_of_live v index hlive hseed), ?_⟩
  simp only [State.returns_phase, State.returns_ksgSt, State.returns_ksgSeed, State.returns_port]
  exact ⟨ht.1, hlive, trivial, trivial⟩

/-- The recurrence as the spec writes it (R66). -/
theorem ksgNext_eq (seed : Word) : ksgNext seed = seed * 0x6F646573#32 + 1#32 := rfl

end Keystream

/-- Settles O19 (41_keystream.md R67): both generators take the same updated seed, from which the second undoes the
first. -/
theorem ksgRoundTripRecoversValue : Obligations.KsgRoundTripRecoversValue := by
  intro s1 s2 t1 value index c hlive1 hlive2 hsome hsame hstep hc
  obtain ⟨seed, hseed⟩ := Option.ne_none_iff_exists'.1 hsome
  rw [exec_ksgStep_of_live value index hlive1 hseed] at hstep
  obtain rfl := Host.Outcome.next.inj hstep
  rw [State.returns_result, Option.some.injEq] at hc
  subst hc
  refine ⟨_, exec_ksgStep_of_live _ index hlive2 (hsame.symm.trans hseed), ?_, ?_⟩
  · rw [State.returns_result, ksgOut_ksgOut]
  · rw [State.returns_ksgSeed, State.returns_ksgSeed]

/-- Settles O20 (41_keystream.md R67): by induction on the operations; each takes its event off the port and applies the
recurrence to the seed. -/
theorem ksgSeedDependsOnCountOnly : Obligations.KsgSeedDependsOnCountOnly := by
  intro ops
  induction ops with
  | nil => exact fun s seed rest _ _ hseed hport => ⟨s, rfl, hport, hseed⟩
  | cons p ops ih =>
    intro s seed rest hidle hlive hseed hport
    obtain ⟨s1, hstep, hidle1, hlive1, hseed1, hport1⟩ := step_ksgStep ⟨hidle, hport⟩ hlive hseed
    obtain ⟨t, hrun, hrest, hkey⟩ := ih s1 (ksgNext seed) rest hidle1 hlive1 hseed1 hport1
    refine ⟨t, (run_succ ops.length hstep).trans hrun, hrest, ?_⟩
    rw [hkey, List.length_cons, Function.iterate_succ_apply, ksgNext_eq]

end Sys2Proof.Machine

/-! PROOFS. What a step runs: port events, the sequencer's host operations and exchanges; and every running step as one
exchange between a preparation and a reaction. -/

namespace Sys2Proof.Machine

section PortEvents

variable {s : State}

/-! ### Port events (30_encoding.md R47, 60_exceptions.md R111, 70_reset_and_hazards.md R112) -/

/-- No host operation is refused: whatever the state, it has an effect or a model fault. -/
theorem exec_host_next {i : Instr} {o : HostOp} (h : encode i = .host o) (s : State) :
    ∃ t : State, exec i s = .next t := by
  cases i with
  | crcInit | crcStep | crcDigest | ksgInit | ksgStep | statusRead => exact ⟨_, rfl⟩
  | seqNew => simp only [exec, execSeqNew]; split <;> exact ⟨_, rfl⟩
  | seqProbe => simp only [exec, execSeqProbe]; split <;> exact ⟨_, rfl⟩
  | seqMultiboot => simp only [exec, execSeqMultiboot]; split <;> exact ⟨_, rfl⟩
  | wProbe | wHdrStart | wHdrWord | wHdrEnd | wKeyProbe | wKeyPrime | wKeyFetch | wCrcA | wLen | wPayload | wWait
    | wCsumStart | wCsumValue => cases h

theorem step_idle (hidle : s.phase.running = false) (hport : s.port = []) : step s = .next s := by
  simp [step, State.fetch, State.fetchPort, hidle, hport]

theorem step_reset {rest : List PortEvent} (hidle : s.phase.running = false) (hport : s.port = .reset :: rest) :
    step s = .next { s with port := rest }.blockReset := by
  simp [step, State.fetch, State.fetchPort, hidle, hport]

theorem step_rejected {o : HostOp} {rest : List PortEvent} {r : Reject} (ht : s.takes o rest)
    (hr : decodeHost o = .error r) : step s = .next ({ s with port := rest }.modelFault .reservedOp) := by
  rw [step, State.fetch_rejected ht hr]

/-- Everything a step can do between operations: nothing, a reset, the refusal of a reserved encoding, or a host
operation; the last three with the event taken off the port. -/
theorem step_between_operations (hidle : s.phase.running = false) :
    (s.port = [] ∧ step s = .next s) ∨
    (∃ rest, s.port = .reset :: rest ∧ step s = .next { s with port := rest }.blockReset) ∨
    (∃ o rest, s.port = .op o :: rest ∧ step s = .next ({ s with port := rest }.modelFault .reservedOp)) ∨
    ∃ i o rest, s.port = .op o :: rest ∧ encode i = .host o ∧ step s = exec i { s with port := rest } := by
  cases hport : s.port with
  | nil => exact .inl ⟨rfl, step_idle hidle hport⟩
  | cons e rest =>
    cases e with
    | reset => exact .inr (.inl ⟨rest, rfl, step_reset hidle hport⟩)
    | op o =>
      cases hdec : decodeHost o with
      | error r => exact .inr (.inr (.inl ⟨o, rest, rfl, step_rejected ⟨hidle, hport⟩ hdec⟩))
      | ok i =>
        exact .inr (.inr (.inr ⟨i, o, rest, rfl, (encode_of_decodeHost hdec).2, step_port ⟨hidle, hport⟩ hdec⟩))

/-! ### The sequencer's host operations (42_sequencer.md R69 to R71) -/

theorem spellsOperation_seqNew_iff {o : HostOp} (h : o.cmd = 0x8#32) :
    spellsOperation o ↔ o.a.toNat < 256 ∧ o.b = 0#32 := by
  simp [spellsOperation, h]

theorem spellsOperation_seqProbe_iff {o : HostOp} (h : o.cmd = 0x9#32) :
    spellsOperation o ↔ o.a = 0#32 ∧ o.b = 0#32 := by
  simp [spellsOperation, h]

theorem exec_seqNew_long (cfg : Byte) (h : 192 ≤ s.len.toNat) :
    exec (.seqNew cfg) s = .next ((s.clearSession.openSession cfg).returns 0#32) :=
  if_neg h.not_gt

theorem exec_seqNew_short (cfg : Byte) (h : s.len.toNat < 192) :
    exec (.seqNew cfg) s = .next ({ s.clearSession with err := .configError }.returns ErrKind.configError.code) :=
  if_pos h

theorem exec_seqProbe_probing (h : s.phase = .probing) : exec .seqProbe s = .next s.probeExchange := if_pos h

theorem exec_seqProbe_elsewhere (h : s.phase ≠ .probing) :
    exec .seqProbe s = .next (s.modelFault .wrongPhase) := if_neg h

theorem exec_wProbe_probing (h : s.phase = .probing) : exec .wProbe s = .next s.probeExchange := if_pos h

theorem exec_wProbe_elsewhere (h : s.phase ≠ .probing) : exec .wProbe s = .refused (.notSent "W_PROBE") := if_neg h

theorem exec_seqMultiboot_probing (h : s.phase = .probing) :
    exec .seqMultiboot s = .next { s with upc := .h0, phase := .headerSent, result := none } := if_pos h

theorem exec_seqMultiboot_elsewhere (h : s.phase ≠ .probing) :
    exec .seqMultiboot s = .next (s.modelFault .wrongPhase) := if_neg h

/-- The probe after a surfaced failure. -/
theorem State.probeExchange_surfaced (h : (s.x16 .probe Config.cmdProbe).1 = none) :
    s.probeExchange =
      { s.heard .probe (zext16 Config.cmdProbe) with ready := false }.returns probeFailedResult := by
  rw [State.probeExchange, ← Prod.mk.eta (p := s.x16 .probe Config.cmdProbe), h]
  rfl

/-- The probe after a response. -/
theorem State.probeExchange_answered {r : Half} (h : (s.x16 .probe Config.cmdProbe).1 = some r) :
    s.probeExchange =
      { s.heard .probe (zext16 Config.cmdProbe) with ready := decide (r = Config.rspProbe) }.returns
        (if r = Config.rspProbe then 1#32 else 0#32) := by
  rw [State.probeExchange, ← Prod.mk.eta (p := s.x16 .probe Config.cmdProbe), h]
  simp only [readyCode, beq_iff_eq, State.x16_snd]
  rfl

/-! ### What a host operation can do -/

/-- The model faults that a host operation meets in a state: those of the two units' bodies, and F_WRONG_PHASE. -/
def State.hostFault (s : State) (f : Fault) : Prop :=
  (∃ v, s.crcStep v = .error f) ∨ s.crcDigest = .error f ∨ (∃ v index, s.ksgStep v index = .error f) ∨ f = .wrongPhase

/-- Everything that host operations leave, each with what it found. -/
inductive HostDoes (s : State) : Instr → State → Prop
  | constructsCrc (finalA finalB : Byte) :
    HostDoes s (.crcInit finalA finalB) ((s.crcNew finalA finalB).returns 0#32)
  | stepsCrc {reg : Word} (v : Word) (hlive : s.crcSt = .live) (hreg : s.crcReg = some reg) :
    HostDoes s (.crcStep v) ({ s with crcReg := some (crcWord reg v) }.returns 0#32)
  | digests {reg fin : Word} (hlive : s.crcSt = .live) (hreg : s.crcReg = some reg) (hfin : s.crcFin = some fin) :
    HostDoes s .crcDigest
      ({ s with crcReg := some (crcWord reg fin), crcSt := .digested }.returns (zext16 (lo16 (crcWord reg fin))))
  | constructsKsg (seed : Word) : HostDoes s (.ksgInit seed) ((s.ksgNew seed).returns 0#32)
  | stepsKsg {seed : Word} (v index : Word) (hlive : s.ksgSt = .live) (hseed : s.ksgSeed = some seed) :
    HostDoes s (.ksgStep v index)
      ({ s with ksgSeed := some (ksgNext seed) }.returns (ksgOut (ksgNext seed) v index))
  | opens (cfg : Byte) (hlen : 192 ≤ s.len.toNat) :
    HostDoes s (.seqNew cfg) ((s.clearSession.openSession cfg).returns 0#32)
  | refuses (cfg : Byte) (hlen : s.len.toNat < 192) :
    HostDoes s (.seqNew cfg) ({ s.clearSession with err := .configError }.returns ErrKind.configError.code)
  | probes (hphase : s.phase = .probing) : HostDoes s .seqProbe s.probeExchange
  | takesUp (hphase : s.phase = .probing) :
    HostDoes s .seqMultiboot { s with upc := .h0, phase := .headerSent, result := none }
  | readsStatus : HostDoes s .statusRead (s.returns s.statusWord)
  | faults {i : Instr} {f : Fault} (hf : s.hostFault f) : HostDoes s i (s.modelFault f)

theorem hostDoes_of_exec {i : Instr} {o : HostOp} {t : State} (henc : encode i = .host o) (hexec : exec i s = .next t) :
    HostDoes s i t := by
  cases i with
  | crcInit => cases hexec; exact .constructsCrc _ _
  | crcStep v =>
    cases hexec
    cases hstep : s.crcStep v with
    | error f => exact .faults (.inl ⟨v, hstep⟩)
    | ok p =>
      obtain ⟨hlive, reg, hreg, rfl⟩ := State.crcStep_ok.1 hstep
      exact .stepsCrc v hlive hreg
  | crcDigest =>
    cases hexec
    cases hdigest : s.crcDigest with
    | error f => exact .faults (.inr (.inl hdigest))
    | ok p =>
      obtain ⟨hlive, reg, fin, hreg, hfin, rfl⟩ := State.crcDigest_ok.1 hdigest
      exact .digests hlive hreg hfin
  | ksgInit => cases hexec; exact .constructsKsg _
  | ksgStep v index =>
    cases hexec
    cases hstep : s.ksgStep v index with
    | error f => exact .faults (.inr (.inr (.inl ⟨v, index, hstep⟩)))
    | ok p =>
      obtain ⟨hlive, seed, hseed, rfl⟩ := State.ksgStep_ok.1 hstep
      exact .stepsKsg v index hlive hseed
  | seqNew cfg =>
    by_cases hlen : 192 ≤ s.len.toNat
    · cases hexec.symm.trans (exec_seqNew_long cfg hlen); exact .opens cfg hlen
    · cases hexec.symm.trans (exec_seqNew_short cfg (Nat.lt_of_not_le hlen)); exact .refuses cfg (Nat.lt_of_not_le hlen)
  | seqProbe =>
    by_cases hphase : s.phase = .probing
    · cases hexec.symm.trans (exec_seqProbe_probing hphase); exact .probes hphase
    · cases hexec.symm.trans (exec_seqProbe_elsewhere hphase); exact .faults (.inr (.inr (.inr rfl)))
  | seqMultiboot =>
    by_cases hphase : s.phase = .probing
    · cases hexec.symm.trans (exec_seqMultiboot_probing hphase); exact .takesUp hphase
    · cases hexec.symm.trans (exec_seqMultiboot_elsewhere hphase); exact .faults (.inr (.inr (.inr rfl)))
  | statusRead => cases hexec; exact .readsStatus
  | wProbe | wHdrStart | wHdrWord | wHdrEnd | wKeyProbe | wKeyPrime | wKeyFetch | wCrcA | wLen | wPayload | wWait
    | wCsumStart | wCsumValue => cases henc

end PortEvents

/-- Settles O4 (30_encoding.md R47): a code of the port is decoded as a host operation. -/
theorem stepRunsPortOperation : Obligations.StepRunsPortOperation :=
  fun _ _ _ _ htakes hdec => step_port htakes hdec

/-- Settles O6 (60_exceptions.md R111): with no event the block is idle. -/
theorem idleHoldsState : Obligations.IdleHoldsState := fun _ hidle hport => step_idle hidle hport

/-- Settles O7 (70_reset_and_hazards.md R112): the reset event is the block's reset, by definition that of the table. -/
theorem resetEventClearsRegisters : Obligations.ResetEventClearsRegisters :=
  fun _ _ hidle hport => step_reset hidle hport

/-- Settles O21 (42_sequencer.md R69, 60_exceptions.md R95): by whether the image is long enough; an operand above its
byte spells no operation. -/
theorem seqNewOpensOrRefusesSession : Obligations.SeqNewOpensOrRefusesSession := by
  refine ⟨fun s cfg hlen => exec_seqNew_long cfg hlen, fun s cfg hlen => exec_seqNew_short cfg hlen,
    fun s o rest htakes hcmd hops => ?_⟩
  exact reservedEncodingsRefused s o rest htakes (mt (spellsOperation_seqNew_iff hcmd).1 hops)

/-- Settles O22 (42_sequencer.md R70): both instructions are the one exchange, taken by what it answers. -/
theorem probeReadsReadiness : Obligations.ProbeReadsReadiness := by
  refine ⟨fun s i hphase hi => ?probing, fun s hphase => exec_seqProbe_elsewhere hphase,
    fun s o rest htakes hcmd hops => ?reserved⟩
  case probing =>
    have hexec : exec i s = .next s.probeExchange := by
      rcases hi with rfl | rfl
      · exact exec_seqProbe_probing hphase
      · exact exec_wProbe_probing hphase
    rw [hexec]
    congr 1
    split
    next hx => exact State.probeExchange_surfaced hx
    next hx => exact State.probeExchange_answered hx
  case reserved =>
    exact reservedEncodingsRefused s o rest htakes (mt (spellsOperation_seqProbe_iff hcmd).1 hops)

/-- Settles O23 (42_sequencer.md R71): by the phase. -/
theorem multibootStartsAtHeader : Obligations.MultibootStartsAtHeader :=
  ⟨fun _ hphase => exec_seqMultiboot_probing hphase, fun _ hphase => exec_seqMultiboot_elsewhere hphase⟩

/-- Settles O26 (00_scope.md R9, 20_memory.md R40): by whether an answer is already fixed, then by the answer. -/
theorem exchangeTakesOneAnswer : Obligations.ExchangeTakesOneAnswer := by
  refine ⟨fun s pos w x rest hpeer => ?fixed, fun s pos w hpeer => ?free, fun s pos h r hx => ?ok,
    fun s pos h hx => ?failed⟩
  case fixed => simp [State.xchg32, State.heard, State.record, State.dropAnswer, State.nextAnswer, drawsAfter, hpeer]
  case free => simp [State.xchg32, State.heard, State.record, State.dropAnswer, State.nextAnswer, drawsAfter, hpeer]
  case ok => simp [State.xchg16, State.xchg32, hx, responseOf, hi16, zext16]
  case failed => simp [State.xchg16, State.xchg32, hx, responseOf, zext16]

/-- Settles O27 (20_memory.md R41): what either exchange answers is the answer under the policy. -/
theorem failurePolicySurfacesOrZeroes : Obligations.FailurePolicySurfacesOrZeroes := by
  intro s pos h w
  refine ⟨fun hx hp => ⟨(s.x16_eq_none pos h).2 ⟨hx, hp⟩, (s.x32_eq_none pos w).2 ⟨hx, hp⟩⟩, fun hx hp => ?asZero,
    fun r hx => ?ok⟩
  case asZero => rw [State.x16_fst, State.x32_fst, hx, hp]; exact ⟨rfl, rfl⟩
  case ok => rw [State.x16_fst, State.x32_fst, hx]; exact ⟨rfl, rfl⟩

/-- Settles O28 (30_encoding.md R52): the fixed words by definition, the others by their parameter byte. -/
theorem microStepsSendTheirWords : Obligations.MicroStepsSendTheirWords := by
  refine fun s => ⟨rfl, rfl, rfl, fun pp hpp => ?_, fun fa hfa => ?_, rfl, rfl⟩
  · rw [← zext16_keyWord]
    exact ⟨State.prepare_k1 hpp, State.prepare_k2 hpp⟩
  · rw [← zext16_crcAWord]
    exact State.prepare_k3 hfa

/-- Settles O43 (20_memory.md R37, 70_reset_and_hazards.md R121). -/
theorem launchInputsConstant : Obligations.LaunchInputsConstant := fun _ _ h => step_sameLaunch h

end Sys2Proof.Machine

/-! PROOFS. A running step: the micro-step at `UPC` prepares its word, exchanges it, and reacts to the response. Each of the
three is said once here, for every position. -/

namespace Sys2Proof.Machine

section Reaction

variable {s s1 t x : State} {u : MicroStep} {w r : Word}

/-! ### The reaction to a response (42_sequencer.md R74 to R86) -/

/-- The micro-step that follows one which discards its response (30_encoding.md R53). -/
def discardsTo : MicroStep → Option MicroStep
  | .h0 => some (.hdr 0)
  | .hdr k => some (afterHeaderWord k)
  | .h97 => some .k0
  | .k0 => some .k1
  | .k1 => some .k2
  | .k3 => some .k4
  | .v1 => some .v2
  | .k2 | .k4 | .t _ | .v0 | .v2 | .done => none

/-- What the micro-step at `u`, having sent `w`, does with the 32-bit response `r`: the last part of the meaning of its wire
word (`exec_wire`). -/
def react (u : MicroStep) (w r : Word) (x : State) : Except Fault State :=
  match u with
  | .h0 => goOn (.hdr 0) r x
  | .hdr k => goOn (afterHeaderWord k) r x
  | .h97 => goOn .k0 r x
  | .k0 => goOn .k1 r x
  | .k1 => goOn .k2 r x
  | .k2 => keyFetched (hi16 r) x
  | .k3 => goOn .k4 r x
  | .k4 => lengthSent (hi16 r) x
  | .t i => payloadSent i r x
  | .v0 => waited (hi16 r) x
  | .v1 => goOn .v2 r x
  | .v2 => digestSent (lo16 w) (hi16 r) x
  | .done => .error .noValue

/-- Every way in which a reaction succeeds. -/
inductive Reacts (u : MicroStep) (w r : Word) (x : State) : State → Prop
  | movesOn {v : MicroStep} (hv : discardsTo u = some v) : Reacts u w r x (x.advance v)
  | keyed {pp : Byte} (hu : u = .k2) (hmark : hi8 (hi16 r) = Config.tokenMark) (hpp : x.pp = some pp) :
    Reacts u w r x ({ x with
      token := some (hi16 r), faRaw := some (loByte (hi16 r)), seed0 := some (deriveSeed (loByte (hi16 r)) pp),
      fa := some (loByte (hi16 r) + Config.faAdj) }.advance .k3)
  | badToken (hu : u = .k2) (hmark : hi8 (hi16 r) ≠ Config.tokenMark) :
    Reacts u w r x ({ x with token := some (hi16 r) }.raise .failedHandshake)
  | built {fa : Byte} {seed : Word} (hu : u = .k4) (hfa : x.fa = some fa) (hseed : x.seed0 = some seed) :
    Reacts u w r x ((({ x with fb := some (loByte (hi16 r)) }.crcNew fa (loByte (hi16 r))).ksgNew seed).advance
      x.afterKeys)
  | acknowledged {i : Nat} (hu : u = .t i) (hack : hi16 r = lo16 (wordIndex i)) :
    Reacts u w r x ({ x with idx := some (BitVec.ofNat 32 (i + 1)) }.advance (x.afterPayload i))
  | unacknowledged {i : Nat} (hu : u = .t i) (hack : hi16 r ≠ lo16 (wordIndex i)) :
    Reacts u w r x (x.raise .transmissionError)
  | exits {c : Nat} (hu : u = .v0) (hc : x.waitCnt = some c) (hexit : hi16 r = Config.rspWait) :
    Reacts u w r x ({ x with waitCnt := some (c + 1) }.advance .v1)
  | timesOut {c : Nat} (hu : u = .v0) (hc : x.waitCnt = some c) (hexit : hi16 r ≠ Config.rspWait)
    (hlimit : limitReached x.waitLimit (c + 1) = true) :
    Reacts u w r x ({ x with waitCnt := some (c + 1) }.raise .checksumTimeout)
  | waits {c : Nat} (hu : u = .v0) (hc : x.waitCnt = some c) (hexit : hi16 r ≠ Config.rspWait)
    (hlimit : limitReached x.waitLimit (c + 1) = false) :
    Reacts u w r x ({ x with waitCnt := some (c + 1) }.advance .v0)
  | completes (hu : u = .v2) (hecho : hi16 r = lo16 w) :
    Reacts u w r x (({ x with err := .ok }.advance .done).returns ErrKind.ok.code)
  | badEcho (hu : u = .v2) (hecho : hi16 r ≠ lo16 w) : Reacts u w r x (x.raise .invalidChecksum)

theorem reacts_of_react (h : react u w r x = .ok t) : Reacts u w r x t := by
  cases u with
  | h0 | hdr | h97 | k0 | k1 | k3 | v1 => cases h; exact .movesOn rfl
  | k2 =>
    by_cases hmark : hi8 (hi16 r) = Config.tokenMark
    · have hbind := h
      rw [react, keyFetched, if_pos hmark] at hbind
      obtain ⟨pp, hpp, -⟩ := bind_ok.1 hbind
      cases h.symm.trans (keyFetched_marked hmark (need_ok.1 hpp))
      exact .keyed rfl hmark (need_ok.1 hpp)
    · cases h.symm.trans (keyFetched_unmarked hmark)
      exact .badToken rfl hmark
  | k4 =>
    obtain ⟨fa, hfa, hbind⟩ := bind_ok.1 h
    obtain ⟨seed, hseed, -⟩ := bind_ok.1 hbind
    cases h.symm.trans (lengthSent_eq (need_ok.1 hfa) (need_ok.1 hseed))
    exact .built rfl (need_ok.1 hfa) (need_ok.1 hseed)
  | t i =>
    rw [react, payloadSent] at h
    split at h <;> cases h
    · exact .acknowledged rfl ‹_›
    · exact .unacknowledged rfl ‹_›
  | v0 =>
    obtain ⟨c, hc, -⟩ := bind_ok.1 h
    rw [react, waited_eq (need_ok.1 hc)] at h
    cases h
    split
    · exact .exits rfl (need_ok.1 hc) ‹_›
    · split
      · exact .timesOut rfl (need_ok.1 hc) ‹_› ‹_›
      · exact .waits rfl (need_ok.1 hc) ‹_› (Bool.not_eq_true _ ▸ ‹_›)
  | v2 =>
    rw [react, digestSent] at h
    split at h <;> cases h
    · exact .completes rfl ‹_›
    · exact .badEcho rfl ‹_›
  | done => cases h

theorem react_discards {v : MicroStep} (hv : discardsTo u = some v) : react u w r x = .ok (x.advance v) := by
  cases u <;> cases hv <;> rfl

theorem react_of_reacts (h : Reacts u w r x t) : react u w r x = .ok t := by
  cases h with
  | movesOn hv => exact react_discards hv
  | keyed hu hmark hpp => subst hu; exact keyFetched_marked hmark hpp
  | badToken hu hmark => subst hu; exact keyFetched_unmarked hmark
  | built hu hfa hseed => subst hu; exact lengthSent_eq hfa hseed
  | acknowledged hu hack => subst hu; exact if_pos hack
  | unacknowledged hu hack => subst hu; exact if_neg hack
  | exits hu hc hexit => subst hu; exact (waited_eq hc).trans (by rw [if_pos hexit])
  | timesOut hu hc hexit hlimit => subst hu; exact (waited_eq hc).trans (by rw [if_neg hexit, if_pos hlimit])
  | waits hu hc hexit hlimit => subst hu; exact (waited_eq hc).trans (by simp [if_neg hexit, hlimit])
  | completes hu hecho => subst hu; exact if_pos hecho
  | badEcho hu hecho => subst hu; exact if_neg hecho

/-- A reaction leaves what stands outside the block, and the record of faults. -/
theorem Reacts.outside (h : Reacts u w r x t) :
    t.trace = x.trace ∧ t.peer = x.peer ∧ t.draws = x.draws ∧ t.port = x.port ∧ t.fault = x.fault := by
  cases h <;> exact ⟨rfl, rfl, rfl, rfl, rfl⟩

/-! ### Every wire word as one micro-step with a 32-bit exchange (20_memory.md R40) -/

/-- What the next exchange answers under the policy, as a 32-bit response; none is a failure to be surfaced. -/
def State.response (s : State) : Option Word := underPolicy s.failPolicy (responseOf s.nextAnswer)

theorem State.x32_eq (s : State) (pos : WirePos) (w : Word) : s.x32 pos w = (s.response, s.heard pos w) := rfl

/-- A 16-bit exchange answers the upper half of the 32-bit exchange of the same word, a zeroed failure included. -/
theorem State.x16_eq (s : State) (pos : WirePos) (h : Half) :
    s.x16 pos h = (s.response.map hi16, s.heard pos (zext16 h)) := by
  refine Prod.ext ?_ rfl
  rw [State.x16_fst, State.response]
  cases responseOf s.nextAnswer with
  | some r => rfl
  | none => cases s.failPolicy <;> rfl

/-- A micro-step of format W16 is one of a 32-bit exchange that reads the upper half of the response. -/
theorem microStep16_eq (m : String) (u : MicroStep) (h : Half) (fin : Half → State → Except Fault State) (s : State) :
    microStep16 m u h fin s =
      microStep m u (zext16 h) (fun x => x.x32 (.micro u) (zext16 h)) (fun r => fin (hi16 r)) s := by
  have hafter (x : State) : s.afterExchange (x.x16 (.micro u) h) fin =
      s.afterExchange (x.x32 (.micro u) (zext16 h)) (fun r => fin (hi16 r)) := by
    rw [State.x16_eq, State.x32_eq]
    cases x.response <;> rfl
  simp only [microStep16, microStep, hafter]

/-- The meaning of every wire word: the micro-step of its position, with that position's reaction. -/
theorem exec_wire {i : Instr} (h : encode i = .wire (.micro u) w) :
    ∃ m : String, ∀ s, exec i s = microStep m u w (fun x => x.x32 (.micro u) w) (react u w) s := by
  cases i with
  | crcInit | crcStep | crcDigest | ksgInit | ksgStep | seqNew | seqProbe | seqMultiboot | statusRead | wProbe => cases h
  | wHdrStart | wHdrWord | wHdrEnd | wKeyProbe | wKeyPrime | wKeyFetch | wCrcA | wLen | wWait | wCsumStart =>
    cases h
    exact ⟨_, microStep16_eq _ _ _ _⟩
  | wPayload => cases h; exact ⟨_, fun _ => rfl⟩
  | wCsumValue d =>
    cases h
    refine ⟨"W_CSUM_VALUE", fun s => (microStep16_eq _ _ _ _ s).trans ?_⟩
    show _ = microStep _ _ _ _ (fun r => digestSent (lo16 (zext16 d)) (hi16 r)) s
    rw [Laws.lo16_zext16]

/-- A micro-step that would send another word is refused. -/
theorem microStep_otherWord {α : Type} {m : String} {w' : Word} {ex : State → Option α × State}
    {fin : α → State → Except Fault State} (hp : s.prepare u = .ok (w', s1)) (hw : w' ≠ w) :
    microStep m u w ex fin s = .refused (.notSent m) := by
  simp [microStep, hp, hw]

/-! ### The preparation of a word (42_sequencer.md R73, R96) -/

/-- Every way in which a preparation succeeds: K4, T(i) and V2 update registers, every other micro-step forms its word from
the state as it stands. -/
inductive Prepares (s : State) (u : MicroStep) (w : Word) : State → Prop
  | unchanged (hk4 : u ≠ .k4) (ht : ∀ i, u ≠ .t i) (hv2 : u ≠ .v2) : Prepares s u w s
  | length (hu : u = .k4) : Prepares s u w { s with lenParam := some s.lengthParam }
  | payload {i : Nat} {v reg seed : Word} (hu : u = .t i) (hword : s.payloadWord i = .ok v) (hcrc : s.crcSt = .live)
    (hreg : s.crcReg = some reg) (hksg : s.ksgSt = .live) (hseed : s.ksgSeed = some seed) :
    Prepares s u w { s with crcReg := some (crcWord reg v), ksgSeed := some (ksgNext seed) }
  | digest {reg fin : Word} (hu : u = .v2) (hcrc : s.crcSt = .live) (hreg : s.crcReg = some reg)
    (hfin : s.crcFin = some fin) (hw : w = zext16 (lo16 (crcWord reg fin))) :
    Prepares s u w { s with
      crcReg := some (crcWord reg fin), crcSt := .digested, digest := some (lo16 (crcWord reg fin)) }

theorem prepares_of_prepare (h : s.prepare u = .ok (w, s1)) : Prepares s u w s1 := by
  cases u with
  | h0 | h97 | k0 | v0 | v1 => cases h; exact .unchanged (by simp) (by simp) (by simp)
  | hdr | k1 | k2 | k3 =>
    obtain ⟨_, _, h⟩ := bind_ok.1 h
    cases h
    exact .unchanged (by simp) (by simp) (by simp)
  | k4 => cases h; exact .length rfl
  | t i =>
    obtain ⟨_, hword, h⟩ := bind_ok.1 h
    obtain ⟨_, hcrcStep, hksgStep⟩ := bind_ok.1 h
    obtain ⟨hcrc, _, hreg, rfl⟩ := State.crcStep_ok.1 hcrcStep
    obtain ⟨hksg, _, hseed, hp⟩ := State.ksgStep_ok.1 hksgStep
    cases hp
    exact .payload rfl hword hcrc hreg hksg hseed
  | v2 =>
    obtain ⟨_, hdigest, h⟩ := bind_ok.1 h
    obtain ⟨hcrc, _, _, hreg, hfin, rfl⟩ := State.crcDigest_ok.1 hdigest
    cases h
    exact .digest rfl hcrc hreg hfin rfl
  | done => cases h

/-- A preparation writes at most the two units' registers, `LENPARAM` and `DIGEST`. -/
theorem State.prepare_frame (h : s.prepare u = .ok (w, s1)) :
    ∃ reg st seed length digest,
      s1 = { s with crcReg := reg, crcSt := st, ksgSeed := seed, lenParam := length, digest := digest } := by
  cases prepares_of_prepare h <;> exact ⟨_, _, _, _, _, rfl⟩

/-- A payload word that can be read has a number within the image space. -/
theorem State.payloadWord_inRange {i : Nat} {v : Word} (h : s.payloadWord i = .ok v) : payloadInRange i = true := by
  have hlen : ¬ s.len.toNat ≤ payloadOffset i + 3 := fun hout => by
    cases h.symm.trans (State.memRead4_outside hout)
  have := s.len.isLt
  simp only [payloadOffset, Config.hdrLen, payloadInRange, decide_eq_true_eq] at hlen ⊢
  omega

/-- Whatever word is prepared is the encoding of a well-formed instruction at that position (30_encoding.md R52). -/
theorem State.prepare_encodes (h : s.prepare u = .ok (w, s1)) :
    ∃ i : Instr, i.wellFormed = true ∧ encode i = .wire (.micro u) w := by
  cases u with
  | h0 => cases h; exact ⟨.wHdrStart, rfl, rfl⟩
  | hdr k => obtain ⟨half, _, h⟩ := bind_ok.1 h; cases h; exact ⟨.wHdrWord k half, rfl, rfl⟩
  | h97 => cases h; exact ⟨.wHdrEnd, rfl, rfl⟩
  | k0 => cases h; exact ⟨.wKeyProbe, rfl, rfl⟩
  | k1 => obtain ⟨pp, _, h⟩ := bind_ok.1 h; cases h; exact ⟨.wKeyPrime pp, rfl, rfl⟩
  | k2 => obtain ⟨pp, _, h⟩ := bind_ok.1 h; cases h; exact ⟨.wKeyFetch pp, rfl, rfl⟩
  | k3 => obtain ⟨fa, _, h⟩ := bind_ok.1 h; cases h; exact ⟨.wCrcA fa, rfl, rfl⟩
  | k4 => cases h; exact ⟨.wLen _, rfl, rfl⟩
  | t i => obtain ⟨_, hword, h⟩ := bind_ok.1 h; exact ⟨.wPayload i w, State.payloadWord_inRange hword, rfl⟩
  | v0 => cases h; exact ⟨.wWait, rfl, rfl⟩
  | v1 => cases h; exact ⟨.wCsumStart, rfl, rfl⟩
  | v2 => obtain ⟨p, _, h⟩ := bind_ok.1 h; cases h; exact ⟨.wCsumValue p.1, rfl, rfl⟩
  | done => cases h

/-! ### The step of a running sequencer (42_sequencer.md R71) -/

theorem step_wire {i : Instr} (hrun : s.phase.running = true) (hprep : s.prepare s.upc = .ok (w, s1))
    (hdec : decodeWire (.micro s.upc) w = .ok i) : step s = exec i s := by
  simp [step, State.fetch, State.fetchMicro, hrun, hprep, hdec]

theorem step_unprepared {f : Fault} (hrun : s.phase.running = true) (hprep : s.prepare s.upc = .error f) :
    step s = .next (s.modelFault f) := by
  simp [step, State.fetch, State.fetchMicro, hrun, hprep]

/-- A prepared word is read back as the instruction that it encodes, and the step is that instruction. -/
theorem step_prepared (hrun : s.phase.running = true) (hprep : s.prepare s.upc = .ok (w, s1)) :
    ∃ i : Instr, i.wellFormed = true ∧ encode i = .wire (.micro s.upc) w ∧ step s = exec i s := by
  obtain ⟨i, hwf, henc⟩ := State.prepare_encodes hprep
  exact ⟨i, hwf, henc, step_wire hrun hprep ((decodeAndEncodeAgree _ i).2 ⟨hwf, henc⟩)⟩

/-- A running step: the preparation, the exchange under the policy, the reaction. -/
theorem step_running (hrun : s.phase.running = true) (hprep : s.prepare s.upc = .ok (w, s1)) :
    step s = .next (s.afterExchange (s1.response, s1.heard (.micro s.upc) w) (react s.upc w)) := by
  obtain ⟨i, -, henc, hstep⟩ := step_prepared hrun hprep
  obtain ⟨m, hexec⟩ := exec_wire henc
  rw [hstep, hexec, microStep_at hrun rfl hprep, State.x32_eq]

/-- A preparation leaves the answer that the exchange will take. -/
theorem State.prepare_response (hprep : s.prepare u = .ok (w, s1)) : s1.response = s.response := by
  obtain ⟨_, _, _, _, _, rfl⟩ := State.prepare_frame hprep
  rfl

/-- The step of a running sequencer by its reaction, when the exchange answers; by the failure, when it surfaces one. -/
theorem step_reacts (hrun : s.phase.running = true) (hprep : s.prepare s.upc = .ok (w, s1)) (hresp : s.response = some r)
    (h : Reacts s.upc w r (s1.heard (.micro s.upc) w) t) : step s = .next t := by
  rw [step_running hrun hprep, State.prepare_response hprep, hresp, State.afterExchange_some, react_of_reacts h]
  rfl

theorem step_surfaced (hrun : s.phase.running = true) (hprep : s.prepare s.upc = .ok (w, s1)) (hresp : s.response = none) :
    step s = .next ((s1.heard (.micro s.upc) w).raise .transportError) := by
  rw [step_running hrun hprep, State.prepare_response hprep, hresp, State.afterExchange_none]

/-- Everything a running step can do: a model fault undoes the micro-step, a surfaced failure of its exchange ends the
session, or it reacts to the response. -/
theorem step_running_cases {s' : State} (hrun : s.phase.running = true) (hstep : step s = .next s') :
    (∃ f, s' = s.modelFault f) ∨
    ∃ w s1, s.prepare s.upc = .ok (w, s1) ∧
      ((s.response = none ∧ s' = (s1.heard (.micro s.upc) w).raise .transportError) ∨
       ∃ r, s.response = some r ∧ Reacts s.upc w r (s1.heard (.micro s.upc) w) s') := by
  cases hprep : s.prepare s.upc with
  | error f =>
    cases hstep.symm.trans (step_unprepared hrun hprep)
    exact .inl ⟨f, rfl⟩
  | ok p =>
    obtain ⟨w, s1⟩ := p
    have h := hstep.symm.trans (step_running hrun hprep)
    rw [State.prepare_response hprep] at h
    cases hresp : s.response with
    | none =>
      rw [hresp] at h
      cases h
      exact .inr ⟨w, s1, rfl, .inl ⟨rfl, rfl⟩⟩
    | some r =>
      rw [hresp, State.afterExchange_some] at h
      cases hreact : react s.upc w r (s1.heard (.micro s.upc) w) with
      | error f => rw [hreact] at h; cases h; exact .inl ⟨f, rfl⟩
      | ok t => rw [hreact] at h; cases h; exact .inr ⟨w, s1, rfl, .inr ⟨r, rfl, reacts_of_react hreact⟩⟩

end Reaction

/-- Settles O5 (30_encoding.md R54): while the sequencer runs, the word is decoded at the position of `UPC`. -/
theorem stepRunsWireWord : Obligations.StepRunsWireWord := fun _ _ _ _ hrun hprep hdec => step_wire hrun hprep hdec

/-- Settles O9 (60_exceptions.md R104): a running step ends its micro-step or takes a model fault; between operations nothing
the port can hold is refused. -/
theorem stepNeverStops : Obligations.StepNeverStops := by
  intro s
  cases hrun : s.phase.running with
  | true =>
    cases hprep : s.prepare s.upc with
    | ok p => exact ⟨_, step_running hrun hprep⟩
    | error f => exact ⟨_, step_unprepared hrun hprep⟩
  | false =>
    obtain ⟨-, h⟩ | ⟨rest, -, h⟩ | ⟨o, rest, -, h⟩ | ⟨i, o, rest, -, henc, h⟩ := step_between_operations hrun
    · exact ⟨_, h⟩
    · exact ⟨_, h⟩
    · exact ⟨_, h⟩
    · exact h ▸ exec_host_next henc _

/-- Settles O30 (30_encoding.md R54): every wire word is the micro-step of its position, which guards itself by the running
session, by `UPC` and by the word. -/
theorem wireWordOnlyWhereItIsSent : Obligations.WireWordOnlyWhereItIsSent := by
  refine ⟨fun i u w s henc hnot => ?_, fun s hphase => exec_wProbe_elsewhere hphase⟩
  obtain ⟨m, hexec⟩ := exec_wire henc
  refine ⟨m, (hexec s).trans ?_⟩
  obtain hidle | hupc | ⟨w', s1, hprep, hw⟩ := hnot
  · exact microStep_refused fun hguard => by simp [hidle] at hguard
  · exact microStep_refused fun hguard => hupc hguard.2
  · exact microStep_otherWord hprep hw

/-- Settles O48 (00_scope.md R7): a unit that is LIVE passes its check and then has no register to read; K1 has no `PP` to
form its word from. -/
theorem readingNoValueFaults : Obligations.ReadingNoValueFaults := by
  refine ⟨fun s value hlive hreg => ?crc, fun s value index hlive hseed => ?ksg, fun s hrun hupc hpp => ?k1⟩
  case crc =>
    have hstep : s.crcStep value = .error .noValue := by
      simp [State.crcStep, hlive, hreg, CrcSt.check, need, bind, Except.bind]
    rw [exec_crcStep, hstep]
    rfl
  case ksg =>
    have hstep : s.ksgStep value index = .error .noValue := by
      simp [State.ksgStep, hlive, hseed, KsgSt.check, need, bind, Except.bind]
    rw [exec_ksgStep, hstep]
    rfl
  case k1 =>
    have hprep : s.prepare s.upc = .error .noValue := by rw [hupc, State.prepare, hpp]; rfl
    exact step_unprepared hrun hprep

/-- Settles O53 (70_reset_and_hazards.md R122): none of the parts of a running step touches the port. -/
theorem portWaitsWhileRunning : Obligations.PortWaitsWhileRunning := by
  intro s s' hrun hstep
  obtain ⟨f, rfl⟩ | ⟨w, s1, hprep, ⟨-, rfl⟩ | ⟨r, -, hreact⟩⟩ := step_running_cases hrun hstep
  · rfl
  · obtain ⟨_, _, _, _, _, rfl⟩ := State.prepare_frame hprep
    rfl
  · obtain ⟨_, _, _, _, _, rfl⟩ := State.prepare_frame hprep
    obtain ⟨-, -, -, hport, -⟩ := hreact.outside
    exact hport

end Sys2Proof.Machine

/-! PROOFS. The invariant: what holds of a running session besides its position, and that every step keeps the whole. -/

namespace Sys2Proof.Machine

section Geometry

variable {s : State}

/-! ### The derived lengths (20_memory.md R33) -/

/-- Clearing the low four bits rounds down to a multiple of 16. -/
theorem State.alignedLen_eq (s : State) : s.alignedLen = s.len.toNat / 16 * 16 := by
  have hmask : s.len &&& 0xFFFFFFF0#32 = s.len >>> 4 <<< 4 := by
    ext i hi
    simp only [BitVec.getElem_and, BitVec.getElem_shiftLeft]
    interval_cases i <;> simp
  have := s.len.isLt
  rw [State.alignedLen, hmask, BitVec.toNat_shiftLeft, BitVec.toNat_ushiftRight, Nat.shiftLeft_eq,
    Nat.shiftRight_eq_div_pow]
  omega

theorem State.payloadWords_eq (s : State) : s.payloadWords = (s.len.toNat / 16 * 16 - 192) / 4 := by
  rw [State.payloadWords, State.alignedLen_eq, Config.hdrLen]

end Geometry

/-- Settles O41 (20_memory.md R33): 192 is a multiple of 16, so rounding down does not go below it. -/
theorem imageGeometry : Obligations.ImageGeometry := by
  intro s hlen
  rw [State.payloadWords_eq, State.alignedLen_eq]
  omega

section Invariant

variable {s s1 x t : State} {u : MicroStep} {w r : Word}

/-! ### A running session without its position -/

/-- What a session keeps from its first micro-step to its end: the invariant but for the position and `ERR`. -/
structure State.SessionInv (s : State) : Prop where
  imageOk : s.img.wf = true
  imageInside : ∀ c ∈ s.img, c.1 < s.len.toNat
  limitOk : ∀ n, s.waitLimit = .bounded n → 1 ≤ n
  crc : s.crcOk
  ksg : s.ksgOk
  opened : s.sessionOpen

/-- The phase of a running session of the invariant is that of its micro-step; no error stands. -/
theorem State.phaseOk_running (h : s.phaseOk) (hrun : s.phase.running = true) :
    phaseOf s.upc = s.phase ∧ s.err = .ok ∧ s.sessionOpen := by
  unfold State.phaseOk at h
  cases hp : s.phase <;> rw [hp] at h hrun
  case headerSent | keysExchanged | transferring | validating => exact h
  all_goals cases hrun

theorem State.phaseOk_of_running (hphase : s.phase = phaseOf s.upc) (hrun : s.phase.running = true) (herr : s.err = .ok)
    (hopen : s.sessionOpen) : s.phaseOk := by
  unfold State.phaseOk
  cases hp : s.phase <;> rw [hp] at hphase hrun
  case headerSent | keysExchanged | transferring | validating => exact ⟨hphase.symm, herr, hopen⟩
  all_goals cases hrun

theorem State.Inv.session (h : s.Inv) (hrun : s.phase.running = true) : s.SessionInv where
  imageOk := h.imageOk
  imageInside := h.imageInside
  limitOk := h.limitOk
  crc := h.crc
  ksg := h.ksg
  opened := (State.phaseOk_running h.phase hrun).2.2

theorem State.SessionInv.heard (h : s.SessionInv) (pos : WirePos) (w : Word) : (s.heard pos w).SessionInv :=
  ⟨h.imageOk, h.imageInside, h.limitOk, h.crc, h.ksg, h.opened⟩

/-- A session that fails at a micro-step meets the invariant. -/
theorem State.SessionInv.raise {k : ErrKind} (h : s.SessionInv) (hupc : s.upc ≠ .done) (hok : k ≠ .ok)
    (hconfig : k ≠ .configError) : (s.raise k).Inv where
  imageOk := h.imageOk
  imageInside := h.imageInside
  limitOk := h.limitOk
  crc := h.crc
  ksg := h.ksg
  phase := ⟨hupc, hok, hconfig, h.opened⟩
  running hrun := by cases hrun

/-- No session runs at `DONE`. -/
theorem running_phaseOf_iff : (phaseOf u).running = true ↔ u ≠ .done := by
  cases u <;> simp [phaseOf, Phase.running]

theorem State.runningOk_ne_done (h : s.runningOk) : s.upc ≠ .done := by
  intro hu
  rw [State.runningOk, hu] at h
  exact h

/-- A session that moves on meets the invariant when the registers are those of the position it moves to. -/
theorem State.SessionInv.advance (h : s.SessionInv) (herr : s.err = .ok) (hok : (s.advance u).runningOk) :
    (s.advance u).Inv where
  imageOk := h.imageOk
  imageInside := h.imageInside
  limitOk := h.limitOk
  crc := h.crc
  ksg := h.ksg
  phase := State.phaseOk_of_running rfl (running_phaseOf_iff.2 (State.runningOk_ne_done hok)) herr h.opened
  running _ := hok

/-- A session that is done meets the invariant, whatever its result. -/
theorem State.SessionInv.complete (h : s.SessionInv) (v : Word) :
    (({ s with err := .ok }.advance .done).returns v).Inv where
  imageOk := h.imageOk
  imageInside := h.imageInside
  limitOk := h.limitOk
  crc := h.crc
  ksg := h.ksg
  phase := ⟨rfl, rfl, h.opened⟩
  running hrun := by cases hrun

/-! ### The preparation -/

/-- A word step of a LIVE unit keeps its register within 16 bits, also when it takes the digest. -/
theorem State.crcOk_stepped {reg v : Word} (h : s.crcOk) (hlive : s.crcSt = .live) (hreg : s.crcReg = some reg)
    (hreg' : x.crcReg = some (crcWord reg v)) (hst : x.crcSt ≠ .unset) (hfin' : x.crcFin = s.crcFin) : x.crcOk := by
  obtain ⟨hunset, -⟩ | ⟨-, ⟨old, hold, hbound⟩, hfin⟩ := h
  · cases hlive.symm.trans hunset
  · cases hreg.symm.trans hold
    exact .inr ⟨hst, ⟨_, hreg', crcStepKeepsSixteenBits reg v hbound⟩, hfin' ▸ hfin⟩

theorem State.SessionInv.prepare (h : s.SessionInv) (hprep : s.prepare u = .ok (w, s1)) : s1.SessionInv := by
  cases prepares_of_prepare hprep with
  | unchanged => exact h
  | length => exact ⟨h.imageOk, h.imageInside, h.limitOk, h.crc, h.ksg, h.opened⟩
  | payload _ _ hcrc hreg hksg _ =>
    exact ⟨h.imageOk, h.imageInside, h.limitOk, State.crcOk_stepped h.crc hcrc hreg rfl (by simp [hcrc]) rfl,
      .inr ⟨hksg, _, rfl⟩, h.opened⟩
  | digest _ hcrc hreg =>
    exact ⟨h.imageOk, h.imageInside, h.limitOk, State.crcOk_stepped h.crc hcrc hreg rfl (by simp) rfl, h.ksg, h.opened⟩

/-- A micro-step other than K4, T(i) and V2 exchanges in the state it started from. -/
theorem State.prepare_unchanged (hprep : s.prepare u = .ok (w, s1)) (hk4 : u ≠ .k4) (ht : ∀ i, u ≠ .t i) (hv2 : u ≠ .v2) :
    s1 = s := by
  cases prepares_of_prepare hprep with
  | unchanged => rfl
  | length hu => exact absurd hu hk4
  | payload hu => exact absurd hu (ht _)
  | digest hu => exact absurd hu hv2

theorem State.prepare_discards {v : MicroStep} (hprep : s.prepare u = .ok (w, s1)) (hv : discardsTo u = some v) :
    s1 = s := by
  cases u <;> cases hv <;> exact State.prepare_unchanged hprep (by simp) (by simp) (by simp)

/-- Both units consume payload word `i` as T(i) is prepared. -/
theorem State.prepare_t_unitsAt {i : Nat} (hunits : s.unitsAt i) (hprep : s.prepare (.t i) = .ok (w, s1)) :
    s1.unitsAt (i + 1) := by
  obtain ⟨hlive, hklive, hreg, ⟨seed, hseed0, hseed⟩, hfin⟩ := hunits
  cases prepares_of_prepare hprep with
  | unchanged _ ht => exact absurd rfl (ht i)
  | length hu | digest hu => cases hu
  | payload hu hword _ hreg' _ hseed' =>
    cases hu
    have hin : payloadOffset i + 3 < s.len.toNat := by
      by_contra hout
      cases hword.symm.trans (State.memRead4_outside (Nat.le_of_not_lt hout))
    cases hword.symm.trans (State.payloadWord_eq hin)
    cases hreg.symm.trans hreg'
    cases hseed.symm.trans hseed'
    exact ⟨hlive, hklive, rfl, ⟨seed, hseed0, rfl⟩, hfin⟩

/-! ### The reaction -/

/-- In a running session of the invariant the micro-step at `UPC` can form its word. -/
theorem State.Inv.prepare_ok (h : s.Inv) (hrun : s.phase.running = true) : ∃ w s1, s.prepare s.upc = .ok (w, s1) := by
  have hok := h.running hrun
  obtain ⟨hlen, ⟨cfg, hpp⟩, -, -⟩ := (h.session hrun).opened
  rw [State.runningOk] at hok
  cases hu : s.upc <;> rw [hu] at hok
  case h0 | h97 | k0 | k4 | v0 | v1 => exact ⟨_, _, rfl⟩
  case hdr k => exact ⟨_, _, State.prepare_hdr (by omega)⟩
  case k1 => exact ⟨_, _, State.prepare_k1 hpp⟩
  case k2 => exact ⟨_, _, State.prepare_k2 hpp⟩
  case k3 =>
    obtain ⟨-, -, t, pp, -, -, -, -, hfa, -⟩ := hok
    exact ⟨_, _, State.prepare_k3 hfa⟩
  case t i =>
    obtain ⟨-, -, -, hi, hlive, hklive, hreg, ⟨seed, -, hseed⟩, -⟩ := hok
    have hin : payloadOffset i + 3 < s.len.toNat := by
      rw [State.payloadWords_eq] at hi
      simp only [payloadOffset, Config.hdrLen]
      omega
    exact ⟨_, _, State.prepare_t (State.payloadWord_eq hin) hlive hreg hklive hseed⟩
  case v2 =>
    obtain ⟨-, -, hlive, -, hreg, -, finalA, finalB, -, -, hfin⟩ := hok
    exact ⟨_, _, State.prepare_v2 hlive hreg hfin⟩
  case done => exact hok.elim

/-- A running session of the invariant can react to every response. -/
theorem State.Inv.react_ok (h : s.Inv) (hrun : s.phase.running = true) (hprep : s.prepare s.upc = .ok (w, s1))
    (pos : WirePos) (v r : Word) : ∃ t, react s.upc w r (s1.heard pos v) = .ok t := by
  have hok := h.running hrun
  obtain ⟨-, ⟨cfg, hpp⟩, -, c, hc⟩ := (h.session hrun).opened
  obtain ⟨_, _, _, _, _, rfl⟩ := State.prepare_frame hprep
  rw [State.runningOk] at hok
  cases hu : s.upc <;> rw [hu] at hok
  case h0 | hdr | h97 | k0 | k1 | k3 | v1 => exact ⟨_, rfl⟩
  case k2 =>
    by_cases hmark : hi8 (hi16 r) = Config.tokenMark
    · exact ⟨_, keyFetched_marked hmark hpp⟩
    · exact ⟨_, keyFetched_unmarked hmark⟩
  case k4 =>
    obtain ⟨-, -, t, pp, -, -, -, -, hfa, hseed⟩ := hok
    exact ⟨_, lengthSent_eq hfa hseed⟩
  case t i => simp only [react, payloadSent]; split <;> exact ⟨_, rfl⟩
  case v0 => exact ⟨_, waited_eq hc⟩
  case v2 => simp only [react, digestSent]; split <;> exact ⟨_, rfl⟩
  case done => exact hok.elim

/-- Everything a running step of the invariant can do: no micro-step of it is a model fault. -/
theorem State.Inv.step_cases {s' : State} (h : s.Inv) (hrun : s.phase.running = true) (hstep : step s = .next s') :
    ∃ w s1, s.prepare s.upc = .ok (w, s1) ∧
      ((s.response = none ∧ s' = (s1.heard (.micro s.upc) w).raise .transportError) ∨
       ∃ r, s.response = some r ∧ Reacts s.upc w r (s1.heard (.micro s.upc) w) s') := by
  obtain ⟨w, s1, hprep⟩ := h.prepare_ok hrun
  refine ⟨w, s1, hprep, ?_⟩
  have hnext := hstep.symm.trans (step_running hrun hprep)
  rw [State.prepare_response hprep] at hnext
  cases hresp : s.response with
  | none =>
    rw [hresp] at hnext
    exact .inl ⟨rfl, Host.Outcome.next.inj hnext⟩
  | some r =>
    obtain ⟨t, hreact⟩ := h.react_ok hrun hprep (.micro s.upc) w r
    rw [hresp, State.afterExchange_some, hreact] at hnext
    exact .inr ⟨r, rfl, Host.Outcome.next.inj hnext ▸ reacts_of_react hreact⟩

/-- The registers of a position are those of the one that follows it after a discarded response. -/
theorem State.runningOk_discards {v : MicroStep} {pos : WirePos} (hok : s.runningOk) (hv : discardsTo s.upc = some v) :
    ((s.heard pos w).advance v).runningOk := by
  rw [State.runningOk] at hok
  cases hu : s.upc <;> rw [hu] at hok hv <;> cases hv
  case hdr k =>
    unfold afterHeaderWord
    split <;> exact hok
  all_goals exact hok

/-- Before the first wait the count is 0, below every bound. -/
theorem State.SessionInv.waitOpen_of_zero (h : s.SessionInv) (hc : s.waitCnt = some 0) : s.waitOpen :=
  fun n hn => ⟨0, hc, h.limitOk n hn⟩

theorem State.waitOpen_of_below {c : Nat} (hc : s.waitCnt = some c) (hlimit : limitReached s.waitLimit c = false) :
    s.waitOpen :=
  fun n hn => ⟨c, hc, by simpa [limitReached, hn] using hlimit⟩

/-- K4 leads to the position of payload word 0 with both units constructed. -/
theorem State.SessionInv.runningOk_built {fa finalB : Byte} {seed : Word} (h : s.SessionInv)
    (hidx : s.idx = some 0#32) (hwait : s.waitCnt = some 0) (hkeyed : s.keyed) (hfa : s.fa = some fa)
    (hseed : s.seed0 = some seed) :
    ((({ s with fb := some finalB }.crcNew fa finalB).ksgNew seed).advance s.afterKeys).runningOk := by
  have hunits : (({ s with fb := some finalB }.crcNew fa finalB).ksgNew seed).unitsAt 0 :=
    ⟨rfl, rfl, rfl, ⟨seed, hseed, rfl⟩, fa, finalB, hfa, rfl, rfl⟩
  obtain ⟨hN, hnext⟩ | ⟨hN, hnext⟩ := s.afterKeys_cases <;> rw [hnext]
  · exact ⟨hidx, hwait, hkeyed, hN, hunits⟩
  · refine ⟨?_, hkeyed, ?_, h.waitOpen_of_zero hwait⟩
    · show s.idx = some (BitVec.ofNat 32 s.payloadWords)
      rw [hidx, hN]
    · show State.unitsAt _ s.payloadWords
      rw [hN]
      exact hunits

/-- T(i) leads to the position of the next payload word, both units having consumed its own. -/
theorem State.SessionInv.runningOk_acknowledged {i : Nat} (h : s.SessionInv) (hi : i < s.payloadWords)
    (hwait : s.waitCnt = some 0) (hkeyed : s.keyed) (hunits : s.unitsAt (i + 1)) :
    ({ s with idx := some (BitVec.ofNat 32 (i + 1)) }.advance (s.afterPayload i)).runningOk := by
  obtain ⟨hN, hnext⟩ | ⟨hN, hnext⟩ := s.afterPayload_cases i <;> rw [hnext]
  · exact ⟨rfl, hwait, hkeyed, hN, hunits⟩
  · obtain hlast : i + 1 = s.payloadWords := by omega
    refine ⟨?_, hkeyed, ?_, h.waitOpen_of_zero hwait⟩
    · show some (BitVec.ofNat 32 (i + 1)) = some (BitVec.ofNat 32 s.payloadWords)
      rw [hlast]
    · show State.unitsAt _ s.payloadWords
      rw [← hlast]
      exact hunits

/-- Every reaction of a running session keeps the invariant: a failure keeps the session, a completion ends it, and each move
finds the registers of its position. -/
theorem State.Inv.reacts {pos : WirePos} (h : s.Inv) (hrun : s.phase.running = true)
    (hprep : s.prepare s.upc = .ok (w, s1)) (hreact : Reacts s.upc w r (s1.heard pos w) t) : t.Inv := by
  have hok := h.running hrun
  have hne := State.runningOk_ne_done hok
  have hx : (s1.heard pos w).SessionInv := ((h.session hrun).prepare hprep).heard pos w
  obtain ⟨-, herr, -⟩ := State.phaseOk_running h.phase hrun
  have hframe := State.prepare_frame hprep
  cases hreact with
  | movesOn hv =>
    cases State.prepare_discards hprep hv
    exact hx.advance herr (State.runningOk_discards hok hv)
  | keyed hu hmark hpp =>
    cases State.prepare_unchanged hprep (by simp [hu]) (by simp [hu]) (by simp [hu])
    rw [State.runningOk, hu] at hok
    obtain ⟨hidx, hwait⟩ := hok
    exact State.SessionInv.advance ⟨hx.imageOk, hx.imageInside, hx.limitOk, hx.crc, hx.ksg, hx.opened⟩ herr
      ⟨hidx, hwait, _, _, hmark, rfl, hpp, rfl, rfl, rfl⟩
  | built hu hfa hseed =>
    rw [State.runningOk, hu] at hok
    obtain ⟨_, _, _, _, _, rfl⟩ := hframe
    obtain ⟨hidx, hwait, hkeyed⟩ := hok
    exact State.SessionInv.advance
      ⟨hx.imageOk, hx.imageInside, hx.limitOk, .inr ⟨by simp, ⟨_, rfl, by decide⟩, _, _, rfl⟩, .inr ⟨rfl, _, rfl⟩, hx.opened⟩
      herr (hx.runningOk_built hidx hwait hkeyed hfa hseed)
  | acknowledged hu =>
    rw [State.runningOk, hu] at hok
    obtain ⟨-, hwait, hkeyed, hi, hunits⟩ := hok
    have hstepped := State.prepare_t_unitsAt hunits (hu ▸ hprep)
    obtain ⟨_, _, _, _, _, rfl⟩ := hframe
    obtain ⟨hlen, hpp, -, hcnt⟩ := hx.opened
    exact State.SessionInv.advance
      ⟨hx.imageOk, hx.imageInside, hx.limitOk, hx.crc, hx.ksg, hlen, hpp, ⟨_, rfl⟩, hcnt⟩ herr
      (hx.runningOk_acknowledged hi hwait hkeyed hstepped)
  | exits hu =>
    cases State.prepare_unchanged hprep (by simp [hu]) (by simp [hu]) (by simp [hu])
    rw [State.runningOk, hu] at hok
    obtain ⟨hidx, hkeyed, hunits, -⟩ := hok
    obtain ⟨hlen, hpp, hcount, -⟩ := hx.opened
    exact State.SessionInv.advance
      ⟨hx.imageOk, hx.imageInside, hx.limitOk, hx.crc, hx.ksg, hlen, hpp, hcount, _, rfl⟩ herr ⟨hidx, hkeyed, hunits⟩
  | waits hu _ _ hlimit =>
    cases State.prepare_unchanged hprep (by simp [hu]) (by simp [hu]) (by simp [hu])
    rw [State.runningOk, hu] at hok
    obtain ⟨hidx, hkeyed, hunits, -⟩ := hok
    obtain ⟨hlen, hpp, hcount, -⟩ := hx.opened
    exact State.SessionInv.advance
      ⟨hx.imageOk, hx.imageInside, hx.limitOk, hx.crc, hx.ksg, hlen, hpp, hcount, _, rfl⟩ herr
      ⟨hidx, hkeyed, hunits, State.waitOpen_of_below rfl hlimit⟩
  | completes => exact hx.complete _
  | badToken =>
    obtain ⟨_, _, _, _, _, rfl⟩ := hframe
    exact State.SessionInv.raise ⟨hx.imageOk, hx.imageInside, hx.limitOk, hx.crc, hx.ksg, hx.opened⟩ hne (by simp) (by simp)
  | timesOut =>
    obtain ⟨_, _, _, _, _, rfl⟩ := hframe
    obtain ⟨hlen, hpp, hcount, -⟩ := hx.opened
    exact State.SessionInv.raise
      ⟨hx.imageOk, hx.imageInside, hx.limitOk, hx.crc, hx.ksg, hlen, hpp, hcount, _, rfl⟩ hne (by simp) (by simp)
  | unacknowledged | badEcho =>
    obtain ⟨_, _, _, _, _, rfl⟩ := hframe
    exact hx.raise hne (by simp) (by simp)

/-- A running step keeps the invariant. -/
theorem State.Inv.of_running_step {s' : State} (h : s.Inv) (hrun : s.phase.running = true) (hstep : step s = .next s') :
    s'.Inv := by
  obtain ⟨w, s1, hprep, ⟨-, rfl⟩ | ⟨r, -, hreact⟩⟩ := h.step_cases hrun hstep
  · have hne := State.runningOk_ne_done (h.running hrun)
    have hx := ((h.session hrun).prepare hprep).heard (.micro s.upc) w
    obtain ⟨_, _, _, _, _, rfl⟩ := State.prepare_frame hprep
    exact hx.raise hne (by simp) (by simp)
  · exact h.reacts hrun hprep hreact

/-! ### Between operations -/

theorem State.Inv.modelFault (h : s.Inv) (f : Fault) : (s.modelFault f).Inv :=
  ⟨h.imageOk, h.imageInside, h.limitOk, h.crc, h.ksg, h.phase, h.running⟩

theorem State.Inv.taken (h : s.Inv) (rest : List PortEvent) : { s with port := rest }.Inv :=
  ⟨h.imageOk, h.imageInside, h.limitOk, h.crc, h.ksg, h.phase, h.running⟩

theorem State.Inv.blockReset (h : s.Inv) : s.blockReset.Inv where
  imageOk := h.imageOk
  imageInside := h.imageInside
  limitOk := h.limitOk
  crc := .inl ⟨rfl, rfl, rfl⟩
  ksg := .inl ⟨rfl, rfl⟩
  phase := ⟨rfl, .inl rfl⟩
  running hrun := by cases hrun

/-- Between operations the host may use the two units: only their own registers have to agree. -/
theorem State.Inv.units {reg fin seed result : Option Word} {crcSt : CrcSt} {ksgSt : KsgSt} (h : s.Inv)
    (hidle : s.phase.running = false) (hcrc : { s with crcReg := reg, crcFin := fin, crcSt := crcSt }.crcOk)
    (hksg : { s with ksgSeed := seed, ksgSt := ksgSt }.ksgOk) :
    { s with
      crcReg := reg, crcFin := fin, crcSt := crcSt, ksgSeed := seed, ksgSt := ksgSt, result := result }.Inv where
  imageOk := h.imageOk
  imageInside := h.imageInside
  limitOk := h.limitOk
  crc := hcrc
  ksg := hksg
  phase := h.phase
  running hrun := by cases hidle.symm.trans hrun

theorem State.Inv.probeExchange (h : s.Inv) (hidle : s.phase.running = false) : s.probeExchange.Inv := by
  have hnot {result : Option Word} {ready : Bool} {pos : WirePos} {w : Word} :
      { s.heard pos w with ready := ready, result := result }.Inv :=
    ⟨h.imageOk, h.imageInside, h.limitOk, h.crc, h.ksg, h.phase, fun hrun => by cases hidle.symm.trans hrun⟩
  cases hx : (s.x16 .probe Config.cmdProbe).1 with
  | none => rw [State.probeExchange_surfaced hx]; exact hnot
  | some r => rw [State.probeExchange_answered hx]; exact hnot

/-- The take-up finds the counts of a new session. -/
theorem State.Inv.takeUp (h : s.Inv) (hphase : s.phase = .probing) :
    { s with upc := .h0, phase := .headerSent, result := none }.Inv := by
  have hprobing := h.phase
  rw [State.phaseOk, hphase] at hprobing
  obtain ⟨-, herr, hopen, hidx, hwait⟩ := hprobing
  exact ⟨h.imageOk, h.imageInside, h.limitOk, h.crc, h.ksg, ⟨rfl, herr, hopen⟩, fun _ => ⟨hidx, hwait⟩⟩

theorem State.Inv.hostDoes {i : Instr} (h : s.Inv) (hidle : s.phase.running = false) (hdoes : HostDoes s i t) : t.Inv := by
  cases hdoes with
  | constructsCrc => exact h.units hidle (.inr ⟨by simp, ⟨_, rfl, by decide⟩, _, _, rfl⟩) h.ksg
  | stepsCrc _ hlive hreg => exact h.units hidle (State.crcOk_stepped h.crc hlive hreg rfl (by simp [hlive]) rfl) h.ksg
  | digests hlive hreg => exact h.units hidle (State.crcOk_stepped h.crc hlive hreg rfl (by simp) rfl) h.ksg
  | constructsKsg => exact h.units hidle h.crc (.inr ⟨rfl, _, rfl⟩)
  | stepsKsg _ _ hlive => exact h.units hidle h.crc (.inr ⟨hlive, _, rfl⟩)
  | opens cfg hlen =>
    exact ⟨h.imageOk, h.imageInside, h.limitOk, .inl ⟨rfl, rfl, rfl⟩, .inl ⟨rfl, rfl⟩,
      ⟨rfl, rfl, ⟨hlen, ⟨cfg, rfl⟩, ⟨_, rfl⟩, ⟨_, rfl⟩⟩, rfl, rfl⟩, fun hrun => by cases hrun⟩
  | refuses =>
    exact ⟨h.imageOk, h.imageInside, h.limitOk, .inl ⟨rfl, rfl, rfl⟩, .inl ⟨rfl, rfl⟩, ⟨rfl, .inr rfl⟩,
      fun hrun => by cases hrun⟩
  | probes => exact h.probeExchange hidle
  | takesUp hphase => exact h.takeUp hphase
  | readsStatus => exact h.units hidle h.crc h.ksg
  | faults => exact h.modelFault _

/-- Every step keeps the invariant. -/
theorem State.Inv.of_step {s' : State} (h : s.Inv) (hstep : step s = .next s') : s'.Inv := by
  cases hrun : s.phase.running with
  | true => exact h.of_running_step hrun hstep
  | false =>
    obtain ⟨-, hs⟩ | ⟨rest, -, hs⟩ | ⟨o, rest, -, hs⟩ | ⟨i, o, rest, -, henc, hs⟩ := step_between_operations hrun
    · cases hstep.symm.trans hs; exact h
    · cases hstep.symm.trans hs; exact (h.taken rest).blockReset
    · cases hstep.symm.trans hs; exact (h.taken rest).modelFault _
    · exact (h.taken rest).hostDoes hrun (hostDoes_of_exec henc (hs.symm.trans hstep))

end Invariant

/-- Settles O50 (10_state.md R14 to R25, 40_checksum.md R58, 41_keystream.md R64): a running step by its reaction, a port
event by its operation. -/
theorem everyStepKeepsInvariant : Obligations.EveryStepKeepsInvariant := fun _ _ h hstep => h.of_step hstep

/-- Settles O49 (10_state.md R31): the state of reset has no session and both units UNSET. -/
theorem resetMeetsInvariant : Obligations.ResetMeetsInvariant where
  imageOk := rfl
  imageInside _ hc := by cases hc
  limitOk _ hn := by cases hn
  crc := .inl ⟨rfl, rfl, rfl⟩
  ksg := .inl ⟨rfl, rfl⟩
  phase := ⟨rfl, .inl rfl⟩
  running hrun := by cases hrun

/-- Settles O29 (30_encoding.md R52, R54): the micro-step forms its word, and any formed word is that of an instruction of
its row. -/
theorem runningSequencerFormsItsWord : Obligations.RunningSequencerFormsItsWord := by
  intro s h hrun
  obtain ⟨w, s1, hprep⟩ := h.prepare_ok hrun
  obtain ⟨i, hwf, henc, hstep⟩ := step_prepared hrun hprep
  exact ⟨w, s1, i, hprep, hwf, henc, hstep⟩

end Sys2Proof.Machine

/-! PROOFS. What a session does: one exchange a micro-step, progress to its end, and what stays between operations. -/

namespace Sys2Proof.Machine

section Exchanges

variable {s s' x : State} {u : MicroStep} {w r : Word}

/-! ### One exchange a micro-step (42_sequencer.md R73) -/

theorem drawsAfter_eq (peer : List Xfer) (draws : Nat) :
    drawsAfter peer draws = if peer = [] then draws + 1 else draws := by
  cases peer <;> simp [drawsAfter]

/-- What a running step of the invariant leaves outside the block, and of the record of faults. -/
theorem State.Inv.step_outside (h : s.Inv) (hrun : s.phase.running = true) (hstep : step s = .next s') :
    (∃ w : Word, s'.trace = s.trace ++ [⟨.micro s.upc, w, s.nextAnswer⟩]) ∧ s'.peer = s.peer.tail ∧
      s'.draws = drawsAfter s.peer s.draws ∧ s'.fault = s.fault := by
  obtain ⟨w, s1, hprep, hcases⟩ := h.step_cases hrun hstep
  obtain ⟨_, _, _, _, _, rfl⟩ := State.prepare_frame hprep
  obtain ⟨-, rfl⟩ | ⟨r, -, hreact⟩ := hcases
  · exact ⟨⟨w, rfl⟩, rfl, rfl, rfl⟩
  · obtain ⟨htrace, hpeer, hdraws, -, hfault⟩ := hreact.outside
    exact ⟨⟨w, htrace⟩, hpeer, hdraws, hfault⟩

/-- The exchange of a micro-step is no probe, so it counts (42_sequencer.md R88). -/
theorem State.microExchanges_of_trace {e : WireEvent} (h : s'.trace = s.trace ++ [e]) :
    s'.microExchanges = s.microExchanges + if e.pos = .probe then 0 else 1 := by
  rw [State.microExchanges, h, List.filter_append, List.length_append, ← State.microExchanges]
  by_cases he : e.pos = .probe <;> simp [he]

/-! ### Progress through the micro-program (42_sequencer.md R71, R87, R88, R97) -/

/-- What one running step makes of a session: it fails where it stands, with a session error; it completes; or it moves on by
one exchange, at most one more wait counted. -/
inductive Progress (s s' : State) : Prop
  | failed (hphase : s'.phase = .failed) (hresult : s'.result = some s'.err.code) (hok : s'.err ≠ .ok)
    (hconfig : s'.err ≠ .configError)
    (hcount : s'.exchangesBefore = s.exchangesBefore + if s'.err = .checksumTimeout then 1 else 0)
  | completed (hphase : s'.phase = .completed) (hresult : s'.result = some s'.err.code) (herr : s'.err = .ok)
    (hcount : s'.exchangesBefore = s.exchangesBefore + 1)
  | moved (hphase : s'.phase.running = true) (hforward : s.phase.code.toNat ≤ s'.phase.code.toNat)
    (hresult : s'.result = s.result) (hcount : s'.exchangesBefore = s.exchangesBefore + 1)
    (hwait : s'.waitCnt = s.waitCnt ∨ s.upc = .v0 ∧ s'.waitCnt = some (s.waitCnt.getD 0 + 1))

/-- The count of exchanges before a position, `n` payload words and `c` waits given. -/
def positionCount (n c : Nat) : MicroStep → Nat
  | .h0 => 0
  | .hdr k => k.val + 1
  | .h97 => 97
  | .k0 => 98
  | .k1 => 99
  | .k2 => 100
  | .k3 => 101
  | .k4 => 102
  | .t i => 103 + i
  | .v0 => 103 + n + c
  | .v1 => 103 + n + c
  | .v2 => 104 + n + c
  | .done => 105 + n + c

theorem State.exchangesBefore_eq {n c : Nat} (hn : s.payloadWords = n) (hc : s.waitCnt.getD 0 = c) (hu : s.upc = u) :
    s.exchangesBefore = positionCount n c u := by
  subst hn hc hu
  unfold State.exchangesBefore
  cases s.upc <;> rfl

/-- A step that moves by one in the count of positions. -/
theorem State.exchangesBefore_succ {n c c' : Nat} {v : MicroStep} (hn : s.payloadWords = n) (hc : s.waitCnt.getD 0 = c)
    (hu : s.upc = u) (hn' : s'.payloadWords = n) (hc' : s'.waitCnt.getD 0 = c') (hv : s'.upc = v)
    (hpos : positionCount n c' v = positionCount n c u + 1) : s'.exchangesBefore = s.exchangesBefore + 1 := by
  rw [State.exchangesBefore_eq hn hc hu, State.exchangesBefore_eq hn' hc' hv, hpos]

/-- The position after a discarded response is one exchange further, in the same phase or the next. -/
theorem positionCount_discards {v : MicroStep} (n c : Nat) (hv : discardsTo u = some v) :
    positionCount n c v = positionCount n c u + 1 := by
  cases u <;> cases hv
  case hdr k =>
    unfold afterHeaderWord
    split
    · rfl
    · simp only [positionCount]; omega
  case v1 => simp only [positionCount]; omega
  all_goals rfl

theorem positionCount_done (n c : Nat) : positionCount n c .done = positionCount n c .v2 + 1 := by
  simp only [positionCount]
  omega

theorem phaseOf_discards {v : MicroStep} (hv : discardsTo u = some v) :
    (phaseOf v).running = true ∧ (phaseOf u).code.toNat ≤ (phaseOf v).code.toNat := by
  cases u <;> cases hv
  case hdr k => rw [phaseOf_afterHeaderWord]; exact ⟨rfl, Nat.le_refl _⟩
  all_goals decide

/-- The phases of the last two stretches of the micro-program. -/
theorem State.phaseOf_afterKeys_forward (s : State) :
    (phaseOf s.afterKeys).running = true ∧ Phase.keysExchanged.code.toNat ≤ (phaseOf s.afterKeys).code.toNat := by
  obtain ⟨-, h⟩ | ⟨-, h⟩ := s.afterKeys_cases <;> rw [h] <;> decide

theorem State.phaseOf_afterPayload_forward (s : State) (i : Nat) :
    (phaseOf (s.afterPayload i)).running = true ∧
      Phase.transferring.code.toNat ≤ (phaseOf (s.afterPayload i)).code.toNat := by
  obtain ⟨-, h⟩ | ⟨-, h⟩ := s.afterPayload_cases i <;> rw [h]
  · exact ⟨rfl, Nat.le_refl _⟩
  · decide

/-- Every running step of the invariant makes progress. -/
theorem State.Inv.progress (h : s.Inv) (hrun : s.phase.running = true) (hstep : step s = .next s') : Progress s s' := by
  obtain ⟨w, s1, hprep, hcases⟩ := h.step_cases hrun hstep
  obtain ⟨_, _, _, _, _, rfl⟩ := State.prepare_frame hprep
  have hok := h.running hrun
  obtain ⟨hphase, -, -⟩ := State.phaseOk_running h.phase hrun
  obtain ⟨-, rfl⟩ | ⟨r, -, hreact⟩ := hcases
  · exact .failed rfl rfl (by simp) (by simp) rfl
  cases hreact with
  | badToken | unacknowledged | badEcho => exact .failed rfl rfl (by simp) (by simp) rfl
  | movesOn hv =>
    obtain ⟨hmoves, hforward⟩ := phaseOf_discards hv
    exact .moved hmoves (hphase ▸ hforward) rfl
      (State.exchangesBefore_succ rfl rfl rfl rfl rfl rfl (positionCount_discards _ _ hv)) (.inl rfl)
  | keyed hu =>
    rw [hu] at hphase
    exact .moved rfl (hphase ▸ Nat.le_refl 3) rfl (State.exchangesBefore_succ rfl rfl hu rfl rfl rfl rfl) (.inl rfl)
  | built hu =>
    rw [State.runningOk, hu] at hok
    rw [hu] at hphase
    obtain ⟨-, hwait, -⟩ := hok
    have hcnt : s.waitCnt.getD 0 = 0 := congrArg (·.getD 0) hwait
    obtain ⟨hmoves, hforward⟩ := s.phaseOf_afterKeys_forward
    refine .moved hmoves (hphase ▸ hforward) rfl ?_ (.inl rfl)
    obtain ⟨-, hnext⟩ | ⟨hN, hnext⟩ := s.afterKeys_cases
    · exact State.exchangesBefore_succ rfl hcnt hu rfl hcnt hnext rfl
    · exact State.exchangesBefore_succ hN hcnt hu hN hcnt hnext rfl
  | @acknowledged i hu =>
    rw [State.runningOk, hu] at hok
    rw [hu] at hphase
    obtain ⟨-, hwait, -, hi, -⟩ := hok
    have hcnt : s.waitCnt.getD 0 = 0 := congrArg (·.getD 0) hwait
    obtain ⟨hmoves, hforward⟩ := s.phaseOf_afterPayload_forward i
    refine .moved hmoves (hphase ▸ hforward) rfl ?_ (.inl rfl)
    obtain ⟨-, hnext⟩ | ⟨hN, hnext⟩ := s.afterPayload_cases i
    · exact State.exchangesBefore_succ rfl hcnt hu rfl hcnt hnext rfl
    · have hlast : s.payloadWords = i + 1 := by omega
      exact State.exchangesBefore_succ hlast hcnt hu hlast hcnt hnext rfl
  | exits hu hc | waits hu hc =>
    rw [hu] at hphase
    have hcnt : s.waitCnt.getD 0 = _ := congrArg (·.getD 0) hc
    exact .moved rfl (hphase ▸ Nat.le_refl 5) rfl (State.exchangesBefore_succ rfl hcnt hu rfl rfl rfl rfl)
      (.inr ⟨hu, congrArg (fun n => some (n + 1)) hcnt.symm⟩)
  | timesOut hu hc =>
    exact .failed rfl rfl (by simp) (by simp)
      (State.exchangesBefore_succ rfl (congrArg (·.getD 0) hc) hu rfl rfl hu rfl)
  | completes hu =>
    exact .completed rfl rfl rfl
      (State.exchangesBefore_succ rfl rfl hu rfl rfl rfl (positionCount_done _ _))

/-! ### The count of exchanges (42_sequencer.md R88) -/

/-- A running step adds one exchange, which the position, a failure or a timeout's `WAIT_CNT` accounts for. -/
theorem State.Inv.countOk_running (h : s.Inv) (hrun : s.phase.running = true) (hcount : s.countOk)
    (hstep : step s = .next s') : s'.countOk := by
  obtain ⟨⟨w, htrace⟩, -⟩ := h.step_outside hrun hstep
  have hone : s'.microExchanges = s.microExchanges + 1 := State.microExchanges_of_trace htrace
  have hnot : s.phase ≠ .failed := by rintro hf; simp [hf, Phase.running] at hrun
  simp only [State.countOk, hnot, false_and, if_false] at hcount
  simp only [State.countOk, hone, hcount]
  cases h.progress hrun hstep with
  | failed hphase _ _ _ hpos => by_cases herr : s'.err = .checksumTimeout <;> simp [hphase, hpos, herr]
  | completed hphase _ _ hpos => simp [hphase, hpos]
  | moved hphase _ _ hpos _ =>
    have hnot' : s'.phase ≠ .failed := by rintro hf; simp [hf, Phase.running] at hphase
    simp [hnot', hpos]

/-! ### Between operations -/

/-- What the count and the end of a session are read from. -/
def State.sameSession (s s' : State) : Prop :=
  s'.phase = s.phase ∧ s'.err = s.err ∧ s'.upc = s.upc ∧ s'.trace = s.trace ∧ s'.waitCnt = s.waitCnt ∧ s'.len = s.len

/-- A host operation leaves the session, but for `SEQ_NEW` and, in PROBING, the probe and the take-up. -/
theorem HostDoes.session {i : Instr} (h : HostDoes s i s') :
    s.sameSession s' ∨ (∃ cfg, i = .seqNew cfg ∧ s'.countOk) ∨ (s.phase = .probing ∧ s' = s.probeExchange) ∨
      (s.phase = .probing ∧ s' = { s with upc := .h0, phase := .headerSent, result := none }) := by
  cases h with
  | constructsCrc | stepsCrc | digests | constructsKsg | stepsKsg | readsStatus | faults =>
    exact .inl ⟨rfl, rfl, rfl, rfl, rfl, rfl⟩
  | opens cfg | refuses cfg => exact .inr (.inl ⟨cfg, rfl, rfl⟩)
  | probes hphase => exact .inr (.inr (.inl ⟨hphase, rfl⟩))
  | takesUp hphase => exact .inr (.inr (.inr ⟨hphase, rfl⟩))

theorem State.sameSession.countOk (h : s.sameSession s') (hcount : s.countOk) : s'.countOk := by
  obtain ⟨hphase, herr, hupc, htrace, hwait, hlen⟩ := h
  have hN : s'.payloadWords = s.payloadWords := by simp [State.payloadWords_eq, hlen]
  rw [State.countOk, State.exchangesBefore_eq rfl rfl rfl] at hcount ⊢
  simpa [State.microExchanges, hphase, herr, hupc, htrace, hwait, hN] using hcount

/-- A probe is no exchange of the micro-program. -/
theorem State.probeExchange_countOk (hphase : s.phase = .probing) (hcount : s.countOk) : s.probeExchange.countOk := by
  have hsame : s.probeExchange.phase = s.phase ∧ s.probeExchange.exchangesBefore = s.exchangesBefore ∧
      s.probeExchange.trace = s.trace ++ [⟨.probe, zext16 Config.cmdProbe, s.nextAnswer⟩] := by
    cases hx : (s.x16 .probe Config.cmdProbe).1 with
    | none => rw [State.probeExchange_surfaced hx]; exact ⟨rfl, rfl, rfl⟩
    | some r => rw [State.probeExchange_answered hx]; exact ⟨rfl, rfl, rfl⟩
  obtain ⟨hphase', hpos, htrace⟩ := hsame
  have hnone : s.probeExchange.microExchanges = s.microExchanges := State.microExchanges_of_trace htrace
  simpa [State.countOk, hnone, hpos, hphase', hphase] using hcount

/-- The take-up stands at H0, where a PROBING session has stood since `SEQ_NEW`. -/
theorem State.Inv.takeUp_countOk (h : s.Inv) (hphase : s.phase = .probing) (hcount : s.countOk) :
    { s with upc := .h0, phase := .headerSent, result := none }.countOk := by
  have hprobing := h.phase
  rw [State.phaseOk, hphase] at hprobing
  obtain ⟨hupc, -⟩ := hprobing
  simpa [State.countOk, State.microExchanges, State.exchangesBefore, hupc, hphase] using hcount

theorem State.Inv.countOk_step (h : s.Inv) (hcount : s.countOk) (hstep : step s = .next s') : s'.countOk := by
  cases hrun : s.phase.running with
  | true => exact h.countOk_running hrun hcount hstep
  | false =>
    have htaken (rest : List PortEvent) : { s with port := rest }.countOk := hcount
    obtain ⟨-, hs⟩ | ⟨rest, -, hs⟩ | ⟨o, rest, -, hs⟩ | ⟨i, o, rest, -, henc, hs⟩ := step_between_operations hrun
    · cases hstep.symm.trans hs; exact hcount
    · cases hstep.symm.trans hs; rfl
    · cases hstep.symm.trans hs; exact htaken rest
    · have hdoes := hostDoes_of_exec henc (hs.symm.trans hstep)
      obtain hsame | ⟨-, -, hnew⟩ | ⟨hphase, rfl⟩ | ⟨hphase, rfl⟩ := hdoes.session
      · exact hsame.countOk (htaken rest)
      · exact hnew
      · exact State.probeExchange_countOk hphase (htaken rest)
      · exact (h.taken rest).takeUp_countOk hphase (htaken rest)

/-! ### The faults that no run records (60_exceptions.md R102) -/

def Fault.isSlip : Fault → Bool
  | .noValue | .imgBounds => true
  | .reservedOp | .crcUnset | .crcDigested | .ksgUnset | .wrongPhase => false

/-- With its registers agreeing a CRC unit that is LIVE has values to read, so it faults by its lifecycle alone. -/
theorem State.crcStep_noSlip {v : Word} {f : Fault} (h : s.crcOk) (hf : s.crcStep v = .error f) : f.isSlip = false := by
  obtain ⟨hst, -⟩ | ⟨hst, ⟨reg, hreg, -⟩, -⟩ := h
  · rw [State.crcStep, hst] at hf; cases hf; rfl
  · cases hlive : s.crcSt with
    | unset => exact absurd hlive hst
    | live => cases hf.symm.trans (State.crcStep_ok.2 ⟨hlive, reg, hreg, rfl⟩)
    | digested => rw [State.crcStep, hlive] at hf; cases hf; rfl

theorem State.crcDigest_noSlip {f : Fault} (h : s.crcOk) (hf : s.crcDigest = .error f) : f.isSlip = false := by
  obtain ⟨hst, -⟩ | ⟨hst, ⟨reg, hreg, -⟩, finalA, finalB, hfin⟩ := h
  · rw [State.crcDigest, hst] at hf; cases hf; rfl
  · cases hlive : s.crcSt with
    | unset => exact absurd hlive hst
    | live => cases hf.symm.trans (State.crcDigest_ok.2 ⟨hlive, reg, _, hreg, hfin, rfl⟩)
    | digested => rw [State.crcDigest, hlive] at hf; cases hf; rfl

theorem State.ksgStep_noSlip {v index : Word} {f : Fault} (h : s.ksgOk) (hf : s.ksgStep v index = .error f) :
    f.isSlip = false := by
  obtain ⟨hst, -⟩ | ⟨hlive, seed, hseed⟩ := h
  · rw [State.ksgStep, hst] at hf; cases hf; rfl
  · cases hf.symm.trans (State.ksgStep_ok.2 ⟨hlive, seed, hseed, rfl⟩)

/-- Whatever fault stands is one that a run may record. -/
def State.noSlip (s : State) : Prop := ∀ f, s.fault = some f → f.isSlip = false

theorem State.noSlip_of_none (h : s.fault = none) : s.noSlip := fun f hf => by cases h.symm.trans hf

theorem State.noSlip_modelFault {f : Fault} (hnone : s.fault = none) (hf : f.isSlip = false) : (s.modelFault f).noSlip := by
  intro g hg
  rw [State.modelFault_fault, hnone] at hg
  cases hg
  exact hf

theorem State.Inv.hostFault_noSlip {f : Fault} (h : s.Inv) (hf : s.hostFault f) : f.isSlip = false := by
  obtain ⟨v, hf⟩ | hf | ⟨v, index, hf⟩ | rfl := hf
  · exact State.crcStep_noSlip h.crc hf
  · exact State.crcDigest_noSlip h.crc hf
  · exact State.ksgStep_noSlip h.ksg hf
  · rfl

theorem HostDoes.noSlip {i : Instr} (h : s.Inv) (hnone : s.fault = none) (hdoes : HostDoes s i s') : s'.noSlip := by
  cases hdoes with
  | constructsCrc | stepsCrc | digests | constructsKsg | stepsKsg | opens | refuses | takesUp | readsStatus =>
    exact State.noSlip_of_none hnone
  | probes => exact State.noSlip_of_none (s.probeExchange_fault.trans hnone)
  | faults hf => exact State.noSlip_modelFault hnone (h.hostFault_noSlip hf)

theorem State.Inv.noSlip_step (h : s.Inv) (hnone : s.fault = none) (hstep : step s = .next s') : s'.noSlip := by
  cases hrun : s.phase.running with
  | true =>
    obtain ⟨-, -, -, hfault⟩ := h.step_outside hrun hstep
    exact State.noSlip_of_none (hfault.trans hnone)
  | false =>
    obtain ⟨-, hs⟩ | ⟨rest, -, hs⟩ | ⟨o, rest, -, hs⟩ | ⟨i, o, rest, -, henc, hs⟩ := step_between_operations hrun
    · cases hstep.symm.trans hs; exact State.noSlip_of_none hnone
    · cases hstep.symm.trans hs; exact State.noSlip_of_none hnone
    · cases hstep.symm.trans hs; exact State.noSlip_modelFault hnone rfl
    · exact (hostDoes_of_exec henc (hs.symm.trans hstep)).noSlip (h.taken rest) hnone

/-! ### The end of a bounded session (70_reset_and_hazards.md R123) -/

/-- A session under the bound `n` makes its exchanges up to DONE, counting as many waits as the bound allows, or as many as
it has counted already. -/
def State.exchangesLeft (n : Nat) (s : State) : Nat :=
  105 + s.payloadWords + max n (s.waitCnt.getD 0) - s.exchangesBefore

/-- A running session of the invariant has not used up its exchanges. -/
theorem State.exchangesBefore_lt (h : s.runningOk) :
    s.exchangesBefore < 105 + s.payloadWords + s.waitCnt.getD 0 := by
  rw [State.runningOk] at h
  rw [State.exchangesBefore_eq rfl rfl rfl]
  cases hu : s.upc <;> rw [hu] at h <;> simp only [positionCount]
  case t i => obtain ⟨-, -, -, hi, -⟩ := h; omega
  case done => exact h.elim
  all_goals omega

/-- Every wait counted is one of the exchanges made. -/
theorem State.waits_le (h : s.runningOk) : s.waitCnt.getD 0 ≤ s.exchangesBefore := by
  rw [State.runningOk] at h
  rw [State.exchangesBefore_eq rfl rfl rfl]
  cases hu : s.upc <;> rw [hu] at h <;> simp only [positionCount]
  case h0 | hdr | h97 | k0 | k1 | k2 => simp [h.2]
  case k3 | k4 | t =>
    obtain ⟨-, hwait, -⟩ := h
    simp [hwait]
  case done => exact h.elim
  all_goals omega

theorem run_one {t : State} (h : step s = .next t) : Host.Core.run Sys2Proof.core 1 s = .next t :=
  run_succ 0 h

/-- By induction on the exchanges left: a step that does not end the session leaves one fewer. -/
theorem State.Inv.ends {n : Nat} (k : Nat) : ∀ s : State, s.Inv → s.phase.running = true → s.waitLimit = .bounded n →
    s.exchangesLeft n ≤ k → ∃ j t, j ≤ k ∧ Host.Core.run Sys2Proof.core j s = .next t ∧ t.ended := by
  induction k with
  | zero =>
    intro s h hrun _ hleft
    have := State.exchangesBefore_lt (h.running hrun)
    simp only [State.exchangesLeft] at hleft
    omega
  | succ k ih =>
    intro s h hrun hlimit hleft
    obtain ⟨s', hstep⟩ := stepNeverStops s
    cases h.progress hrun hstep with
    | failed hphase hresult => exact ⟨1, s', by omega, run_one hstep, .inr hphase, hresult⟩
    | completed hphase hresult => exact ⟨1, s', by omega, run_one hstep, .inl hphase, hresult⟩
    | moved hphase _ _ hcount hwait =>
      obtain ⟨hlen, -, hlimit', -⟩ := step_sameLaunch hstep
      have hN : s'.payloadWords = s.payloadWords := by simp [State.payloadWords_eq, hlen]
      have hmax : max n (s'.waitCnt.getD 0) = max n (s.waitCnt.getD 0) := by
        obtain hsame | ⟨hu, hmore⟩ := hwait
        · rw [hsame]
        · have hopen := h.running hrun
          rw [State.runningOk, hu] at hopen
          obtain ⟨c, hc, hbelow⟩ := hopen.2.2.2 n hlimit
          simp only [hmore, hc, Option.getD_some]
          omega
      have hfewer : s'.exchangesLeft n ≤ k := by
        simp only [State.exchangesLeft, hN, hmax, hcount] at hleft ⊢
        omega
      obtain ⟨j, t, hj, hrunj, hend⟩ := ih s' (h.of_step hstep) hphase (hlimit'.trans hlimit) hfewer
      exact ⟨j + 1, t, by omega, (run_succ j hstep).trans hrunj, hend⟩

end Exchanges

/-- Settles O54 (42_sequencer.md R88): a running step by its progress, a port event by what it leaves of the session. -/
theorem exchangeCountKept : Obligations.ExchangeCountKept := fun _ _ h hcount hstep => h.countOk_step hcount hstep

/-- Settles O24 (42_sequencer.md R71): by the progress of the step; the code of a session error lies between 1 and 5. -/
theorem multibootReturnsErrorCode : Obligations.MultibootReturnsErrorCode := by
  intro s s' h hrun hstep
  cases h.progress hrun hstep with
  | moved hphase _ hresult => exact .inl ⟨hphase, hresult⟩
  | completed hphase hresult herr => exact .inr (.inl ⟨hphase, herr, by rw [hresult, herr]; rfl⟩)
  | failed hphase hresult hok hconfig =>
    refine .inr (.inr ⟨hphase, hresult, ?_⟩)
    cases herr : s'.err <;> simp [herr, ErrKind.code] at hok hconfig ⊢

/-- Settles O39 (42_sequencer.md R73). -/
theorem everyMicroStepExchangesOnce : Obligations.EveryMicroStepExchangesOnce := by
  intro s s' h hrun hstep
  obtain ⟨⟨w, htrace⟩, hpeer, hdraws, -⟩ := h.step_outside hrun hstep
  exact ⟨w, htrace, hpeer, hdraws.trans (drawsAfter_eq s.peer s.draws)⟩

/-- Settles O40 (60_exceptions.md R93, R97): the exchange answers nothing, so the step can only raise. -/
theorem surfacedFailureEndsSession : Obligations.SurfacedFailureEndsSession := by
  intro s h hrun hanswer hpolicy
  have hnone : s.response = none := (s.x32_eq_none .probe 0#32).2 ⟨hanswer, hpolicy⟩
  obtain ⟨s', hstep⟩ := stepNeverStops s
  obtain ⟨w, s1, hprep, ⟨-, rfl⟩ | ⟨r, hsome, -⟩⟩ := h.step_cases hrun hstep
  · obtain ⟨_, _, _, _, _, rfl⟩ := State.prepare_frame hprep
    exact ⟨_, hstep, rfl, rfl, rfl, rfl⟩
  · cases hnone.symm.trans hsome

/-- Settles O46 (60_exceptions.md R102): no micro-step of the invariant faults, and no host operation finds a register
without its value. -/
theorem modelSlipsUnreachable : Obligations.ModelSlipsUnreachable := by
  intro s s' h hnone hstep
  have hnot := h.noSlip_step hnone hstep
  constructor <;> (intro hf; cases hnot _ hf)

/-- Settles O51 (42_sequencer.md R87): by the progress of the step; an ended session has a phase above every running one. -/
theorem phaseMovesForward : Obligations.PhaseMovesForward := by
  intro s s' h hrun hstep
  have hbelow : s.phase.code.toNat ≤ 5 := by cases hp : s.phase <;> simp [hp, Phase.running, Phase.code] at hrun ⊢
  cases h.progress hrun hstep with
  | moved _ hforward _ hcount => exact ⟨hforward, fun _ => by omega⟩
  | completed hphase =>
    rw [hphase]
    exact ⟨Nat.le_trans hbelow (by decide), fun hrun' => by cases hrun'⟩
  | failed hphase =>
    rw [hphase]
    exact ⟨Nat.le_trans hbelow (by decide), fun hrun' => by cases hrun'⟩

/-- Settles O52 (60_exceptions.md R100): of the host operations only `SEQ_NEW`, command word 8, touches a session outside
PROBING. -/
theorem endedSessionStaysEnded : Obligations.EndedSessionStaysEnded := by
  intro s s' hended hstep hreset hnew
  have hidle : s.phase.running = false := by rcases hended with hp | hp <;> rw [hp] <;> rfl
  have hprobing : s.phase ≠ .probing := by rcases hended with hp | hp <;> rw [hp] <;> decide
  obtain ⟨-, hs⟩ | ⟨rest, hport, -⟩ | ⟨o, rest, -, hs⟩ | ⟨i, o, rest, hport, henc, hs⟩ := step_between_operations hidle
  · cases hstep.symm.trans hs; exact ⟨rfl, rfl, rfl, rfl⟩
  · exact absurd hport (hreset rest)
  · cases hstep.symm.trans hs; exact ⟨rfl, rfl, rfl, rfl⟩
  · obtain ⟨hphase, herr, hupc, htrace, -⟩ | ⟨cfg, rfl, -⟩ | ⟨hphase, -⟩ | ⟨hphase, -⟩ :=
      (hostDoes_of_exec henc (hs.symm.trans hstep)).session
    · exact ⟨hphase, herr, hupc, htrace⟩
    · cases henc; exact absurd rfl (hnew _ _ hport)
    · exact absurd hphase hprobing
    · exact absurd hphase hprobing

/-- Settles O55 (42_sequencer.md R88): the count at the position where each session stands. -/
theorem sessionExchangeTotals : Obligations.SessionExchangeTotals := by
  refine ⟨fun s n h hcount hphase hwait => ?completed, fun s hcount hphase herr hupc => ?handshake,
    fun s i hcount hphase herr hupc => ?transmission⟩
  case completed =>
    have hcompleted := h.phase
    rw [State.phaseOk, hphase] at hcompleted
    obtain ⟨hupc, -⟩ := hcompleted
    simp [State.countOk, State.exchangesBefore, hphase, hupc, hwait] at hcount
    omega
  case handshake => simpa [State.countOk, State.exchangesBefore, hphase, herr, hupc] using hcount
  case transmission => simpa [State.countOk, State.exchangesBefore, hphase, herr, hupc] using hcount

/-- Settles O56 (70_reset_and_hazards.md R123): the exchanges left at any position are within the bound. -/
theorem boundedSessionEnds : Obligations.BoundedSessionEnds := by
  intro s n h hrun hlimit
  have hwaits := State.waits_le (h.running hrun)
  obtain ⟨k, t, hk, hend⟩ := State.Inv.ends (s.exchangesLeft n) s h hrun hlimit (Nat.le_refl _)
  refine ⟨k, t, ?_, hend⟩
  simp only [State.exchangesLeft] at hk
  omega

end Sys2Proof.Machine

/-! PROOFS. What a step does not read: the image tail, and the lower half of a response. -/

namespace Sys2Proof.Machine

section Noninterference

variable {s s1 x t : State} {u : MicroStep} {w r : Word} {m : Memory} {peer : List Xfer} {trace : List WireEvent}

/-! ### A micro-step with other surroundings -/

/-- The same block with another image, other answers to come and another trace. -/
def State.around (s : State) (m : Memory) (peer : List Xfer) (trace : List WireEvent) : State :=
  { s with img := m, peer := peer, trace := trace }

/-- No reaction reads the surroundings. -/
theorem Reacts.around (h : Reacts u w r x t) : Reacts u w r (x.around m peer trace) (t.around m peer trace) := by
  cases h with
  | movesOn hv => exact .movesOn hv
  | keyed hu hmark hpp => exact .keyed hu hmark hpp
  | badToken hu hmark => exact .badToken hu hmark
  | built hu hfa hseed => exact .built hu hfa hseed
  | acknowledged hu hack => exact .acknowledged hu hack
  | unacknowledged hu hack => exact .unacknowledged hu hack
  | exits hu hc hexit => exact .exits hu hc hexit
  | timesOut hu hc hexit hlimit => exact .timesOut hu hc hexit hlimit
  | waits hu hc hexit hlimit => exact .waits hu hc hexit hlimit
  | completes hu hecho => exact .completes hu hecho
  | badEcho hu hecho => exact .badEcho hu hecho

theorem Reacts.sameLaunch (h : Reacts u w r x t) : x.sameLaunch t := by
  cases h <;> exact ⟨rfl, rfl, rfl, rfl⟩

theorem Reacts.on_image (h : Reacts u w r x t) : Reacts u w r { x with img := m } { t with img := m } := by
  obtain ⟨htrace, hpeer, -⟩ := h.outside
  have hsame : t.around m x.peer x.trace = { t with img := m } := by rw [State.around, ← hpeer, ← htrace]
  exact hsame ▸ h.around

theorem Reacts.on_trace (h : Reacts u w r x t) : Reacts u w r { x with trace := trace } { t with trace := trace } := by
  obtain ⟨-, hpeer, -⟩ := h.outside
  obtain ⟨-, himg, -⟩ := h.sameLaunch
  have hsame : t.around x.img x.peer trace = { t with trace := trace } := by rw [State.around, ← hpeer, ← himg]
  exact hsame ▸ h.around

/-- Of a response a reaction reads the upper half alone (30_encoding.md R53). -/
theorem react_congr {r' : Word} (h : hi16 r = hi16 r') : react u w r x = react u w r' x := by
  cases u with
  | h0 | hdr | h97 | k0 | k1 | k3 | v1 | done => rfl
  | k2 | k4 | v0 | v2 => simp only [react, h]
  | t i => simp only [react, payloadSent, h]

theorem Reacts.on_sameUpper {r' : Word} (h : Reacts u w r x t) (hhalf : hi16 r = hi16 r') : Reacts u w r' x t :=
  reacts_of_react ((react_congr hhalf).symm.trans (react_of_reacts h))

/-- Of the surroundings a preparation reads the header word or payload word that it sends. -/
theorem State.prepare_around (hhdr : ∀ k, u = .hdr k → (s.around m peer trace).headerWord k = s.headerWord k)
    (hpay : ∀ i, u = .t i → (s.around m peer trace).payloadWord i = s.payloadWord i) (h : s.prepare u = .ok (w, s1)) :
    (s.around m peer trace).prepare u = .ok (w, s1.around m peer trace) := by
  cases u with
  | h0 | h97 | k0 | k4 | v0 | v1 => cases h; rfl
  | hdr k =>
    obtain ⟨half, hword, h⟩ := bind_ok.1 h
    cases h
    exact bind_ok.2 ⟨half, (hhdr k rfl).trans hword, rfl⟩
  | k1 | k2 | k3 =>
    obtain ⟨p, hp, h⟩ := bind_ok.1 h
    cases h
    exact bind_ok.2 ⟨p, hp, rfl⟩
  | t i =>
    obtain ⟨v, hword, h⟩ := bind_ok.1 h
    obtain ⟨_, hcrc, hksg⟩ := bind_ok.1 h
    obtain ⟨hlive, reg, hreg, rfl⟩ := State.crcStep_ok.1 hcrc
    obtain ⟨hklive, seed, hseed, hp⟩ := State.ksgStep_ok.1 hksg
    cases hp
    exact State.prepare_t ((hpay i rfl).trans hword) hlive hreg hklive hseed
  | v2 =>
    obtain ⟨_, hdigest, h⟩ := bind_ok.1 h
    obtain ⟨hlive, reg, fin, hreg, hfin, rfl⟩ := State.crcDigest_ok.1 hdigest
    cases h
    exact State.prepare_v2 hlive hreg hfin
  | done => cases h

/-! ### The image tail (20_memory.md R36) -/

/-- The header lies below `AL`. -/
theorem State.headerWord_congr (hlen : 192 ≤ s.len.toNat) (hm : ∀ a, a < s.alignedLen → m.read a = s.img.read a)
    (k : Fin 96) : (s.around m peer trace).headerWord k = s.headerWord k := by
  have hin : 2 * k.val + 1 < s.len.toNat := by omega
  have hal : 192 ≤ s.alignedLen := by rw [State.alignedLen_eq]; omega
  rw [State.headerWord, State.headerWord, State.memRead2_eq hin]
  refine (State.memRead2_eq (s := s.around m peer trace) hin).trans ?_
  show Except.ok ((m.read _).setWidth 16 ||| (m.read _).setWidth 16 <<< 8) = _
  rw [hm _ (by omega), hm _ (by omega)]

/-- Every payload word lies below `AL`. -/
theorem State.payloadWord_congr {i : Nat} (hi : i < s.payloadWords) (hm : ∀ a, a < s.alignedLen → m.read a = s.img.read a) :
    (s.around m peer trace).payloadWord i = s.payloadWord i := by
  have hbelow : payloadOffset i + 3 < s.alignedLen := by
    rw [State.payloadWords_eq] at hi
    rw [State.alignedLen_eq, payloadOffset, Config.hdrLen]
    omega
  have hin : payloadOffset i + 3 < s.len.toNat := by rw [State.alignedLen_eq] at hbelow; omega
  rw [State.payloadWord_eq hin]
  refine (State.payloadWord_eq (s := s.around m peer trace) hin).trans ?_
  show Except.ok ((m.read _).setWidth 32 ||| (m.read _).setWidth 32 <<< 8 ||| (m.read _).setWidth 32 <<< 16 |||
    (m.read _).setWidth 32 <<< 24) = _
  rw [hm _ (by omega), hm _ (by omega), hm _ (by omega), hm _ (by omega)]

/-- A step of a running session on an image that agrees below `AL`. -/
theorem State.Inv.step_running_image {s' : State} (h : s.Inv) (hrun : s.phase.running = true)
    (hm : ∀ a, a < s.alignedLen → m.read a = s.img.read a) (hstep : step s = .next s') :
    step { s with img := m } = .next { s' with img := m } := by
  obtain ⟨w, s1, hprep, hcases⟩ := h.step_cases hrun hstep
  have hok := h.running hrun
  have hprep' : { s with img := m }.prepare s.upc = .ok (w, s1.around m s.peer s.trace) := by
    refine State.prepare_around (fun k _ => ?_) (fun i hu => ?_) hprep
    · obtain ⟨hlen, -⟩ := (h.session hrun).opened
      exact State.headerWord_congr hlen hm k
    · rw [State.runningOk, hu] at hok
      obtain ⟨-, -, -, hi, -⟩ := hok
      exact State.payloadWord_congr hi hm
  obtain ⟨_, _, _, _, _, rfl⟩ := State.prepare_frame hprep
  obtain ⟨hnone, rfl⟩ | ⟨r, hsome, hreact⟩ := hcases
  · exact step_surfaced (s := { s with img := m }) hrun hprep' hnone
  · exact step_reacts (s := { s with img := m }) hrun hprep' hsome hreact.on_image

/-! Between operations nothing reads the image. -/

theorem State.crcStep_image (v : Word) :
    { s with img := m }.crcStep v = (s.crcStep v).map fun t => { t with img := m } := by
  simp only [State.crcStep]
  cases s.crcSt <;> cases s.crcReg <;> rfl

theorem State.crcDigest_image :
    { s with img := m }.crcDigest = s.crcDigest.map fun p => (p.1, { p.2 with img := m }) := by
  simp only [State.crcDigest]
  cases s.crcSt <;> cases s.crcReg <;> cases s.crcFin <;> rfl

theorem State.ksgStep_image (v index : Word) :
    { s with img := m }.ksgStep v index = (s.ksgStep v index).map fun p => (p.1, { p.2 with img := m }) := by
  simp only [State.ksgStep]
  cases s.ksgSt <;> cases s.ksgSeed <;> rfl

theorem State.probeExchange_image : { s with img := m }.probeExchange = { s.probeExchange with img := m } := by
  cases hx : (s.x16 .probe Config.cmdProbe).1 with
  | none => rw [State.probeExchange_surfaced hx, State.probeExchange_surfaced (s := { s with img := m }) hx]; rfl
  | some r => rw [State.probeExchange_answered hx, State.probeExchange_answered (s := { s with img := m }) hx]; rfl

theorem exec_host_image {i : Instr} {o : HostOp} {s' : State} (henc : encode i = .host o) (hexec : exec i s = .next s') :
    exec i { s with img := m } = .next { s' with img := m } := by
  cases i with
  | crcInit | ksgInit | statusRead => cases hexec; rfl
  | crcStep v =>
    cases hexec
    rw [exec_crcStep, State.crcStep_image]
    cases s.crcStep v <;> rfl
  | crcDigest =>
    cases hexec
    rw [exec_crcDigest, State.crcDigest_image]
    cases s.crcDigest <;> rfl
  | ksgStep v index =>
    cases hexec
    rw [exec_ksgStep, State.ksgStep_image]
    cases s.ksgStep v index <;> rfl
  | seqNew cfg =>
    by_cases hlen : 192 ≤ s.len.toNat
    · cases hexec.symm.trans (exec_seqNew_long cfg hlen)
      exact exec_seqNew_long (s := { s with img := m }) cfg hlen
    · cases hexec.symm.trans (exec_seqNew_short cfg (by omega))
      exact exec_seqNew_short (s := { s with img := m }) cfg (Nat.lt_of_not_le hlen)
  | seqProbe =>
    by_cases hphase : s.phase = .probing
    · cases hexec.symm.trans (exec_seqProbe_probing hphase)
      rw [exec_seqProbe_probing (s := { s with img := m }) hphase, State.probeExchange_image]
    · cases hexec.symm.trans (exec_seqProbe_elsewhere hphase)
      exact exec_seqProbe_elsewhere (s := { s with img := m }) hphase
  | seqMultiboot =>
    by_cases hphase : s.phase = .probing
    · cases hexec.symm.trans (exec_seqMultiboot_probing hphase)
      exact exec_seqMultiboot_probing (s := { s with img := m }) hphase
    · cases hexec.symm.trans (exec_seqMultiboot_elsewhere hphase)
      exact exec_seqMultiboot_elsewhere (s := { s with img := m }) hphase
  | wProbe | wHdrStart | wHdrWord | wHdrEnd | wKeyProbe | wKeyPrime | wKeyFetch | wCrcA | wLen | wPayload | wWait
    | wCsumStart | wCsumValue => cases henc

/-- Between operations a step does the same on every image. -/
theorem step_idle_image {s' : State} (hidle : s.phase.running = false) (hstep : step s = .next s') :
    step { s with img := m } = .next { s' with img := m } := by
  obtain ⟨port, hport⟩ : ∃ port, s.port = port := ⟨_, rfl⟩
  cases port with
  | nil =>
    obtain rfl := Host.Outcome.next.inj ((step_idle hidle hport).symm.trans hstep)
    exact step_idle (s := { s with img := m }) hidle hport
  | cons e rest =>
    cases e with
    | reset =>
      cases hstep.symm.trans (step_reset hidle hport)
      exact step_reset (s := { s with img := m }) hidle hport
    | op o =>
      cases hdec : decodeHost o with
      | error f =>
        cases hstep.symm.trans (step_rejected ⟨hidle, hport⟩ hdec)
        exact step_rejected (s := { s with img := m }) ⟨hidle, hport⟩ hdec
      | ok i =>
        rw [step_port (s := { s with img := m }) ⟨hidle, hport⟩ hdec]
        exact exec_host_image (encode_of_decodeHost hdec).2 ((step_port ⟨hidle, hport⟩ hdec).symm.trans hstep)

/-! ### The lower half of a response (30_encoding.md R53) -/

/-- The invariant speaks of the block, not of the answers to come. -/
theorem State.Inv.answering (h : s.Inv) (peer : List Xfer) : { s with peer := peer }.Inv :=
  ⟨h.imageOk, h.imageInside, h.limitOk, h.crc, h.ksg, h.phase, h.running⟩

end Noninterference

/-- Settles O44 (20_memory.md R36): a micro-step reads header and payload words, which lie below `AL`; nothing else reads the
image. -/
theorem imageTailNeverRead : Obligations.ImageTailNeverRead := by
  intro s s' m h hm hstep
  cases hrun : s.phase.running with
  | true => exact h.step_running_image hrun hm hstep
  | false => exact step_idle_image hrun hstep

/-- Settles O45 (20_memory.md R40, 30_encoding.md R53): both sessions prepare the same word and react alike to the two
responses; only the trace has them in full. -/
theorem responseLowHalfUnread : Obligations.ResponseLowHalfUnread := by
  intro s s1 s2 r1 r2 rest h hrun hhalf hstep1 hstep2
  obtain ⟨w, p, hprep, ⟨hnone, -⟩ | ⟨r, hsome, hreact⟩⟩ := (h.answering (.ok r1 :: rest)).step_cases hrun hstep1
  · cases hnone
  cases hsome
  have hprep2 : { s with peer := .ok r2 :: rest }.prepare s.upc = .ok (w, p.around s.img (.ok r2 :: rest) s.trace) :=
    State.prepare_around (s := { s with peer := .ok r1 :: rest }) (fun _ _ => rfl) (fun _ _ => rfl) hprep
  obtain ⟨_, _, _, _, _, rfl⟩ := State.prepare_frame hprep
  have hreact2 := (hreact.on_sameUpper hhalf).on_trace (trace := s.trace ++ [⟨.micro s.upc, w, .ok r2⟩])
  obtain rfl := Host.Outcome.next.inj
    (hstep2.symm.trans (step_reacts (s := { s with peer := .ok r2 :: rest }) hrun hprep2 rfl hreact2))
  rfl

end Sys2Proof.Machine

/-! PROOFS. A session with a peer that plays its part: its answers by position, and the run that they lead through. -/

namespace Sys2Proof.Machine

section Honest

variable {s s1 t : State} {u : MicroStep} {w r : Word} {n : Nat} {d : Half} {raw finalB : Byte}

/-! ### The answers of such a peer (42_sequencer.md R79 to R86) -/

/-- The 16-bit view of the answer at a position: the token, finalB, the acknowledgement, the wait's exit and the echo of the
digest `d`; any other response is discarded. -/
def honestHalf (raw finalB : Byte) (d : Half) : MicroStep → Half
  | .k2 => 0x7300#16 ||| raw.setWidth 16
  | .k4 => finalB.setWidth 16
  | .t i => lo16 (wordIndex i)
  | .v0 => 0x0075#16
  | .v2 => d
  | .h0 | .hdr _ | .h97 | .k0 | .k1 | .k3 | .v1 | .done => 0#16

/-- The position after such an answer, with `n` payload words. -/
def honestNext (n : Nat) : MicroStep → MicroStep
  | .h0 => .hdr 0
  | .hdr k => afterHeaderWord k
  | .h97 => .k0
  | .k0 => .k1
  | .k1 => .k2
  | .k2 => .k3
  | .k3 => .k4
  | .k4 => if 0 < n then .t 0 else .v0
  | .t i => if i + 1 < n then .t (i + 1) else .v0
  | .v0 => .v1
  | .v1 => .v2
  | .v2 => .done
  | .done => .done

theorem honestNext_discards {v : MicroStep} (hv : discardsTo u = some v) : honestNext n u = v := by
  cases u <;> cases hv <;> rfl

/-- The answers from the first wait on. -/
def answersFromWait (d : Half) : List Xfer := [answer16 0x0075#16, answer16 0#16, answer16 d]

/-- The answers from payload word `i` on. -/
def answersFromPayload (n : Nat) (d : Half) (i : Nat) : List Xfer :=
  (List.range' i (n - i)).map (fun j => answer16 (lo16 (wordIndex j))) ++ answersFromWait d

/-- The answers from K2 on. -/
def answersFromToken (n : Nat) (raw finalB : Byte) (d : Half) : List Xfer :=
  answer16 (0x7300#16 ||| raw.setWidth 16) :: answer16 0#16 :: answer16 (finalB.setWidth 16) :: answersFromPayload n d 0

/-- The answers from a position on. -/
def answersFrom (n : Nat) (raw finalB : Byte) (d : Half) : MicroStep → List Xfer
  | .h0 => List.replicate 100 (answer16 0#16) ++ answersFromToken n raw finalB d
  | .hdr k => List.replicate (99 - k.val) (answer16 0#16) ++ answersFromToken n raw finalB d
  | .h97 => List.replicate 3 (answer16 0#16) ++ answersFromToken n raw finalB d
  | .k0 => List.replicate 2 (answer16 0#16) ++ answersFromToken n raw finalB d
  | .k1 => List.replicate 1 (answer16 0#16) ++ answersFromToken n raw finalB d
  | .k2 => answersFromToken n raw finalB d
  | .k3 => answer16 0#16 :: answer16 (finalB.setWidth 16) :: answersFromPayload n d 0
  | .k4 => answer16 (finalB.setWidth 16) :: answersFromPayload n d 0
  | .t i => answersFromPayload n d i
  | .v0 => answersFromWait d
  | .v1 => [answer16 0#16, answer16 d]
  | .v2 => [answer16 d]
  | .done => []

theorem answersFromPayload_cons {i : Nat} (hi : i < n) :
    answersFromPayload n d i = answer16 (lo16 (wordIndex i)) :: answersFromPayload n d (i + 1) := by
  rw [answersFromPayload, show n - i = (n - (i + 1)) + 1 by omega, List.range'_succ]
  rfl

theorem answersFromPayload_end {i : Nat} (hi : n ≤ i) : answersFromPayload n d i = answersFromWait d := by
  rw [answersFromPayload, Nat.sub_eq_zero_of_le hi]
  rfl

/-- The answers from a position are the one it takes and those from the next position. -/
theorem answersFrom_cons (hu : u ≠ .done) (ht : ∀ i, u = .t i → i < n) :
    answersFrom n raw finalB d u =
      answer16 (honestHalf raw finalB d u) :: answersFrom n raw finalB d (honestNext n u) := by
  cases u with
  | h0 | h97 | k0 | k1 | k2 | k3 | v0 | v1 | v2 => rfl
  | hdr k =>
    rw [answersFrom, show 99 - k.val = (98 - k.val) + 1 by omega, List.replicate_succ, List.cons_append, honestNext,
      afterHeaderWord]
    by_cases hk : k.val + 1 < 96
    · rw [dif_pos hk, show 98 - k.val = 99 - (k.val + 1) by omega]
      rfl
    · rw [dif_neg hk, show 98 - k.val = 3 by omega]
      rfl
  | k4 =>
    by_cases hn : 0 < n
    · rw [honestNext, if_pos hn]
      rfl
    · rw [honestNext, if_neg hn, answersFrom, answersFromPayload_end (by omega)]
      rfl
  | t i =>
    rw [answersFrom, answersFromPayload_cons (ht i rfl)]
    by_cases hn : i + 1 < n
    · rw [honestNext, if_pos hn]
      rfl
    · rw [honestNext, if_neg hn, answersFromPayload_end (by omega)]
      rfl
  | done => exact absurd rfl hu

theorem State.honestAnswers_eq (s : State) (raw finalB : Byte) :
    s.honestAnswers raw finalB = answersFrom s.payloadWords raw finalB (s.sessionDigest raw finalB) .h0 := by
  simp only [State.honestAnswers, answersFrom, answersFromToken, answersFromPayload, answersFromWait, List.append_assoc,
    List.range_eq_range', Nat.sub_zero, List.cons_append, List.nil_append]

theorem answersFrom_length : (answersFrom n raw finalB d .h0).length = 106 + n := by
  simp [answersFrom, answersFromToken, answersFromPayload, answersFromWait]
  omega

/-! ### The values that the answers carry -/

theorem hi16_shifted (h : Half) : hi16 (h.setWidth 32 <<< 16) = h := by
  ext i hi
  simp only [hi16, BitVec.getElem_extractLsb', BitVec.getLsbD_shiftLeft, BitVec.getLsbD_setWidth]
  grind

theorem State.response_of_answer16 (s : State) {half : Half} (h : s.nextAnswer = answer16 half) :
    s.response = some (half.setWidth 32 <<< 16) := by
  rw [State.response, h]
  rfl

theorem loByte_setWidth (b : Byte) : loByte (b.setWidth 16) = b := by simp [loByte]

/-- The token as its two bytes. -/
theorem token_bytes (raw : Byte) :
    hi8 (0x7300#16 ||| raw.setWidth 16) = Config.tokenMark ∧ loByte (0x7300#16 ||| raw.setWidth 16) = raw := by
  have h := bytes_of_half (b0 := raw) (b1 := 0x73#8) rfl
  rw [BitVec.or_comm, loByte_eq]
  exact ⟨h.2, h.1⟩

/-! ### A session on its way -/

/-- What the answers up to a position have left in the registers. -/
def State.keysHonest (s : State) (raw finalB : Byte) : Prop :=
  match s.upc with
  | .k3 | .k4 => s.fa = some (raw + Config.faAdj)
  | .t _ | .v0 | .v1 | .v2 => s.fa = some (raw + Config.faAdj) ∧ s.fb = some finalB
  | .done => s.phase = .completed ∧ s.result = some 0#32 ∧ s.digest = some (s.sessionDigest raw finalB)
  | .h0 | .hdr _ | .h97 | .k0 | .k1 | .k2 => True

/-- A session that runs, or has completed, with such a peer. -/
structure State.Honest (s : State) (raw finalB : Byte) : Prop where
  inv : s.Inv
  running : s.upc ≠ .done → s.phase.running = true
  keys : s.keysHonest raw finalB

/-- V2 sends the session's digest, and keeps it. -/
theorem State.Inv.prepare_v2_digest (h : s.Inv) (hrun : s.phase.running = true) (hu : s.upc = .v2)
    (hkeys : s.keysHonest raw finalB) (hprep : s.prepare s.upc = .ok (w, s1)) :
    lo16 w = s.sessionDigest raw finalB ∧ s1.digest = some (s.sessionDigest raw finalB) := by
  have hok := h.running hrun
  rw [State.runningOk, hu] at hok
  rw [State.keysHonest, hu] at hkeys
  rw [hu] at hprep
  obtain ⟨-, -, hlive, -, hreg, -, finalA, finalB', hfa, hfb, hfin⟩ := hok
  obtain ⟨hfa', hfb'⟩ := hkeys
  cases hfa.symm.trans hfa'
  cases hfb.symm.trans hfb'
  cases hprep.symm.trans (State.prepare_v2 hlive hreg hfin)
  exact ⟨Laws.lo16_zext16 _, rfl⟩

theorem State.keysHonest_discards {v : MicroStep} {pos : WirePos} (hkeys : s.keysHonest raw finalB)
    (hv : discardsTo s.upc = some v) : ((s.heard pos w).advance v).keysHonest raw finalB := by
  rw [State.keysHonest] at hkeys
  cases hu : s.upc <;> rw [hu] at hkeys hv <;> cases hv
  case hdr k =>
    unfold afterHeaderWord
    split <;> trivial
  all_goals exact hkeys

theorem State.keysHonest_of_keys {i : Nat} (hu : s.upc = .t i ∨ s.upc = .v0) (hfa : s.fa = some (raw + Config.faAdj))
    (hfb : s.fb = some finalB) : s.keysHonest raw finalB := by
  obtain hu | hu := hu <;> (rw [State.keysHonest, hu]; exact ⟨hfa, hfb⟩)

/-- The step that such an answer leads to. -/
theorem State.Honest.step (h : s.Honest raw finalB) (hu : s.upc ≠ .done)
    (hanswer : s.nextAnswer = answer16 (honestHalf raw finalB (s.sessionDigest raw finalB) s.upc)) :
    ∃ t, Machine.step s = .next t ∧ t.upc = honestNext s.payloadWords s.upc ∧ t.Honest raw finalB := by
  have hrun := h.running hu
  have hkeys := h.keys
  obtain ⟨t, hstep⟩ := stepNeverStops s
  have hinv := h.inv.of_step hstep
  have hresp := s.response_of_answer16 hanswer
  refine ⟨t, hstep, ?_⟩
  obtain ⟨w, s1, hprep, ⟨hnone, -⟩ | ⟨r, hsome, hreact⟩⟩ := h.inv.step_cases hrun hstep
  · exact absurd (hresp.symm.trans hnone) (Option.some_ne_none _)
  have hr : hi16 r = honestHalf raw finalB (s.sessionDigest raw finalB) s.upc := by
    rw [← Option.some.inj (hresp.symm.trans hsome)]
    exact hi16_shifted _
  have hframe := State.prepare_frame hprep
  cases hreact with
  | movesOn hv =>
    cases State.prepare_discards hprep hv
    refine ⟨(honestNext_discards hv).symm, hinv, fun _ => (phaseOf_discards hv).1, ?_⟩
    exact State.keysHonest_discards hkeys hv
  | keyed hk2 =>
    refine ⟨by rw [hk2]; rfl, hinv, fun _ => rfl, ?_⟩
    show some _ = some _
    rw [hr, hk2]
    exact congrArg (fun b => some (b + Config.faAdj)) (token_bytes raw).2
  | built hk4 =>
    rw [State.keysHonest, hk4] at hkeys
    obtain ⟨_, _, _, _, _, rfl⟩ := hframe
    have hfb : some (loByte (hi16 r)) = some finalB := by
      rw [hr, hk4]
      exact congrArg some (loByte_setWidth finalB)
    exact ⟨by rw [hk4]; rfl, hinv, fun _ => s.phaseOf_afterKeys_forward.1,
      State.keysHonest_of_keys (s.afterKeys_cases.imp And.right And.right) hkeys hfb⟩
  | @acknowledged i hti =>
    rw [State.keysHonest, hti] at hkeys
    obtain ⟨hfa, hfb⟩ := hkeys
    obtain ⟨_, _, _, _, _, rfl⟩ := hframe
    exact ⟨by rw [hti]; rfl, hinv, fun _ => (s.phaseOf_afterPayload_forward i).1,
      State.keysHonest_of_keys ((s.afterPayload_cases i).imp And.right And.right) hfa hfb⟩
  | exits hv0 =>
    cases State.prepare_unchanged hprep (by simp [hv0]) (by simp [hv0]) (by simp [hv0])
    rw [State.keysHonest, hv0] at hkeys
    exact ⟨by rw [hv0]; rfl, hinv, fun _ => rfl, hkeys⟩
  | completes hv2 =>
    obtain ⟨-, hdigest⟩ := h.inv.prepare_v2_digest hrun hv2 hkeys hprep
    obtain ⟨_, _, _, _, _, rfl⟩ := hframe
    exact ⟨by rw [hv2]; rfl, hinv, fun hne => absurd rfl hne, rfl, rfl, hdigest⟩
  | badToken hk2 hmark => rw [hr, hk2] at hmark; exact absurd (token_bytes raw).1 hmark
  | unacknowledged hti hack => rw [hr, hti] at hack; exact absurd rfl hack
  | timesOut hv0 _ hexit | waits hv0 _ hexit => rw [hr, hv0] at hexit; exact absurd rfl hexit
  | badEcho hv2 hecho =>
    obtain ⟨hword, -⟩ := h.inv.prepare_v2_digest hrun hv2 hkeys hprep
    rw [hr, hv2] at hecho
    exact absurd hword.symm hecho

theorem State.Honest.completed (h : s.Honest raw finalB) (hdone : s.upc = .done) :
    s.phase = .completed ∧ s.result = some 0#32 ∧ s.digest = some (s.sessionDigest raw finalB) := by
  have hkeys := h.keys
  rw [State.keysHonest, hdone] at hkeys
  exact hkeys

/-- The run through the answers that are left, one exchange each. -/
theorem State.Honest.run {more : List Xfer} {rest : List PortEvent} (answers : List Xfer) : ∀ s : State,
    s.Honest raw finalB → s.payloadWords = n → s.sessionDigest raw finalB = d →
    answersFrom n raw finalB d s.upc = answers → s.peer = answers ++ more → s.port = rest →
    ∃ t, Host.Core.run Sys2Proof.core answers.length s = .next t ∧ t.Honest raw finalB ∧ t.upc = .done ∧
      t.sessionDigest raw finalB = d ∧ t.peer = more ∧ t.port = rest := by
  have hpayload (s : State) (h : s.Honest raw finalB) (i : Nat) (hi : s.upc = .t i) : i < s.payloadWords := by
    have hok := h.inv.running (h.running (by rw [hi]; simp))
    rw [State.runningOk, hi] at hok
    obtain ⟨-, -, -, hlt, -⟩ := hok
    exact hlt
  induction answers with
  | nil =>
    intro s h hn hd hanswers hpeer hport
    have hdone : s.upc = .done := by
      by_contra hu
      rw [answersFrom_cons hu fun i hi => hn ▸ hpayload s h i hi] at hanswers
      cases hanswers
    exact ⟨s, rfl, h, hdone, hd, hpeer, hport⟩
  | cons a answers ih =>
    intro s h hn hd hanswers hpeer hport
    have hu : s.upc ≠ .done := by rintro hu; rw [hu] at hanswers; cases hanswers
    rw [answersFrom_cons hu fun i hi => hn ▸ hpayload s h i hi] at hanswers
    obtain ⟨ha, hrest⟩ := List.cons.inj hanswers
    have hanswer : s.nextAnswer = a := by rw [State.nextAnswer, hpeer]; rfl
    obtain ⟨s', hstep, hupc, h'⟩ := h.step hu (hanswer.trans (ha.symm.trans (by rw [hd])))
    obtain ⟨-, hpeer', -⟩ := h.inv.step_outside (h.running hu) hstep
    obtain ⟨hlen, himg, -⟩ := step_sameLaunch hstep
    have hn' : s'.payloadWords = s.payloadWords := by simp [State.payloadWords_eq, hlen]
    obtain ⟨t, hrun, hend⟩ := ih s' h' (hn'.trans hn) (by rw [← hd, State.sessionDigest, State.sessionDigest, himg, hn'])
      (by rw [hupc, hn, hrest]) (by rw [hpeer', hpeer]; rfl)
      ((portWaitsWhileRunning s s' (h.running hu) hstep).trans hport)
    exact ⟨t, (run_succ _ hstep).trans hrun, hend⟩

end Honest

/-- Settles O57 (42_sequencer.md R71, 70_reset_and_hazards.md R115): the take-up, then the run through the answers of such a
peer, of which there are as many as exchanges. -/
theorem honestSessionCompletes : Obligations.HonestSessionCompletes := by
  intro s raw finalB rest more h hphase hport hpeer
  have hidle : s.phase.running = false := by rw [hphase]; rfl
  have hstep := (step_port ⟨hidle, hport⟩ rfl).trans (exec_seqMultiboot_probing (s := { s with port := rest }) hphase)
  have hstart : State.Honest { s with port := rest, upc := .h0, phase := .headerSent, result := none } raw finalB :=
    ⟨(h.taken rest).takeUp hphase, fun _ => rfl, trivial⟩
  rw [State.honestAnswers_eq] at hpeer
  obtain ⟨t, hrun, hend, hdone, hd, hmore, hrest⟩ := State.Honest.run _ _ hstart rfl rfl rfl hpeer rfl
  obtain ⟨hcompleted, hresult, hdigest⟩ := hend.completed hdone
  refine ⟨t, ?_, hcompleted, hdone, hresult, hdigest.trans (congrArg some hd), hmore, hrest⟩
  rw [answersFrom_length] at hrun
  rw [show 107 + s.payloadWords = 106 + s.payloadWords + 1 by omega, run_succ _ hstep]
  exact hrun

end Sys2Proof.Machine
